-- ==== Sys2Proof/Word.lean ====
section
/-! DEFINITION. The word types of the hub: the widths the spec's fields have on the wire and in the counters. -/

namespace Sys2Proof

/-- One byte on the trigger bus or on a reader port (R78, R143). -/
abbrev Byte := BitVec 8

/-- The value field of SET and GET, two bytes (R162, R167). -/
abbrev Value16 := BitVec 16

end Sys2Proof
end

