-- ==== Sys2Proof/Syntax.lean ====
section
/-! DEFINITION. The commands of the hub: one constructor per row of spec/opcode_table.json, with the row's operands. -/

namespace Sys2Proof

/-- The four readers, and their ports (00, Conventions). -/
inductive Reader where
  | a | b | c | d
  deriving DecidableEq, Repr

/-- One constructor per row of the table.
A reader command carries the reader of the port on which it arrives and its argument bytes, as they arrive (R143, R146). -/
inductive Instr where
  /-- DEVICE_RESET: RST_N low, or power-on. -/
  | deviceReset
  /-- RESET_RELEASE: RST_N rises. -/
  | resetRelease
  /-- TICK: a tick of the selected reference after the prescale divider. -/
  | tick
  /-- HOLD_EXPIRY: the expiry of this reader's hold timer. -/
  | holdExpiry (r : Reader)
  /-- MINIMUM_HOLD_EXPIRY: the coarse pulse that brings the minimum-hold timer to 0. -/
  | minimumHoldExpiry
  /-- STRETCH_EXPIRY: the coarse pulse that brings the stretch timer to 0. -/
  | stretchExpiry
  /-- REFCLK_EDGE: a rising edge of REFCLK. -/
  | refclkEdge
  /-- REFCLK_ABSENT: 64 internal cycles have passed without a REFCLK edge. -/
  | refclkAbsent
  /-- SETTLE_COMPLETE: the reference edge that brings the settle counter to 0. -/
  | settleComplete
  /-- START_MARK on the trigger bus. -/
  | startMark
  /-- STOP_MARK on the trigger bus. -/
  | stopMark
  /-- ADDRESS_BYTE: the first byte after a start mark. -/
  | addressByte (byte : Byte)
  /-- HEADER_BYTE of a frame. -/
  | headerByte (byte : Byte)
  /-- CLASS_BYTE of a trigger frame. -/
  | classByte (byte : Byte)
  /-- TAG_BYTE, either of the two. -/
  | tagByte (byte : Byte)
  /-- TRIGGER_CHECK_BYTE: the check byte of a trigger frame. -/
  | triggerCheckByte (byte : Byte)
  /-- HOLDING_ENTRY: the waiting frame asks again for entry. -/
  | holdingEntry
  /-- EPOCH_CHECK_BYTE: the check byte of an epoch frame. -/
  | epochCheckByte (byte : Byte)
  /-- EPOCH_RESET: a pending epoch reset is applied. -/
  | epochReset
  /-- STATUS_READ_BYTE: the hub sends a byte, and the source acknowledges it or not. -/
  | statusReadByte (acknowledged : Bool)
  /-- TRANSACTION_OPEN: CS_N of this reader's port falls. -/
  | transactionOpen (r : Reader)
  /-- TRANSACTION_END: CS_N of this reader's port rises. -/
  | transactionEnd (r : Reader)
  /-- BAD_COMMAND: a command byte that is not in the command index. -/
  | badCommand (r : Reader) (code : Byte)
  /-- STATUS, code 0x01. -/
  | status (r : Reader)
  /-- TIME, code 0x02. -/
  | time (r : Reader)
  /-- CAUSES, code 0x03. -/
  | causes (r : Reader)
  /-- TAKE, code 0x10. -/
  | take (r : Reader)
  /-- RELEASE, code 0x11: the epoch, then the event number. -/
  | release (r : Reader) (epoch : BitVec 8) (number : BitVec 24)
  /-- RELEASE_OLDEST, code 0x12. -/
  | releaseOldest (r : Reader)
  /-- HELD, code 0x13. -/
  | held (r : Reader)
  /-- ATTACH, code 0x20. -/
  | attach (r : Reader)
  /-- DETACH, code 0x21. -/
  | detach (r : Reader)
  /-- RESUME, code 0x22. -/
  | resume (r : Reader)
  /-- DECLARE_BUSY, code 0x23. -/
  | declareBusy (r : Reader) (value : Byte)
  /-- READER_RESET, code 0x24. -/
  | readerReset (r : Reader)
  /-- CLAIM, code 0x30. -/
  | claim (r : Reader)
  /-- YIELD, code 0x31. -/
  | yield (r : Reader)
  /-- SET, code 0x32, of a setting that has no row of its own. -/
  | set (r : Reader) (id : Byte) (value : Value16)
  /-- SET of BUSY_HIGH, id 0x04. -/
  | setBusyHigh (r : Reader) (value : Value16)
  /-- SET of BUSY_LOW, id 0x05. -/
  | setBusyLow (r : Reader) (value : Value16)
  /-- SET of FORCE_BUSY, id 0x07. -/
  | setForceBusy (r : Reader) (value : Value16)
  /-- SET of SETTLE_BUSY, id 0x08. -/
  | setSettleBusy (r : Reader) (value : Value16)
  /-- SET of TICK_PRESCALE, id 0x0D. -/
  | setTickPrescale (r : Reader) (value : Value16)
  /-- SET of RUN_NUMBER, id 0x0B. -/
  | setRunNumber (r : Reader) (value : Value16)
  /-- SET of the ATTN_MASK of the reader `target`. -/
  | setAttnMask (r : Reader) (target : Reader) (value : Value16)
  /-- GET, code 0x33. -/
  | get (r : Reader) (id : Byte)
  /-- RULE_WRITE, code 0x34: index, enable, pattern, mask, sets, interval. -/
  | ruleWrite (r : Reader) (index enable pattern mask sets interval : Byte)
  /-- RULE_READ, code 0x35. -/
  | ruleRead (r : Reader) (index : Byte)
  /-- EPOCH, code 0x38. -/
  | epoch (r : Reader)
  /-- CLEAR, code 0x39. -/
  | clear (r : Reader)
  /-- REFERENCE, code 0x3A: 0 INTERNAL, 1 EXTERNAL. -/
  | reference (r : Reader) (value : Byte)
  /-- COUNTER, code 0x40: index, form. -/
  | counter (r : Reader) (index form : Byte)
  /-- CLEAR_COUNTERS, code 0x41. -/
  | clearCounters (r : Reader)
  deriving DecidableEq, Repr

end Sys2Proof
end

