-- ==== Sys2Proof/WellFormed.lean ====
section
/-! DEFINITION. Which terms of `Instr` are events of their own row.
The types bound every operand but two: the code of BAD_COMMAND is unknown (R146),
and the id of SET names no setting that has a row of its own (the row's summary, R162). -/

namespace Sys2Proof

/-- The command codes of the command index (09 section 9.5). -/
def knownCommandCodes : List Byte :=
  [0x01#8, 0x02#8, 0x03#8, 0x10#8, 0x11#8, 0x12#8, 0x13#8, 0x20#8, 0x21#8, 0x22#8, 0x23#8, 0x24#8,
   0x30#8, 0x31#8, 0x32#8, 0x33#8, 0x34#8, 0x35#8, 0x38#8, 0x39#8, 0x3A#8, 0x40#8, 0x41#8]

/-- The setting ids that the table gives rows of their own: BUSY_HIGH, BUSY_LOW, FORCE_BUSY, SETTLE_BUSY, RUN_NUMBER,
TICK_PRESCALE and the four ATTN_MASKs (R163, R164). -/
def settingIdsWithOwnRow : List Byte :=
  [0x04#8, 0x05#8, 0x07#8, 0x08#8, 0x0B#8, 0x0D#8, 0x24#8, 0x2C#8, 0x34#8, 0x3C#8]

/-- A command is well formed when it is an event of its own row. -/
def Instr.wellFormed : Instr → Bool
  | .badCommand _ code => !knownCommandCodes.contains code
  | .set _ id _ => !settingIdsWithOwnRow.contains id
  | .deviceReset | .resetRelease | .tick | .holdExpiry _ | .minimumHoldExpiry | .stretchExpiry | .refclkEdge
  | .refclkAbsent | .settleComplete | .startMark | .stopMark | .addressByte _ | .headerByte _ | .classByte _ | .tagByte _
  | .triggerCheckByte _ | .holdingEntry | .epochCheckByte _ | .epochReset | .statusReadByte _ | .transactionOpen _
  | .transactionEnd _ | .status _ | .time _ | .causes _ | .take _ | .release _ _ _ | .releaseOldest _ | .held _ | .attach _
  | .detach _ | .resume _ | .declareBusy _ _ | .readerReset _ | .claim _ | .yield _ | .setBusyHigh _ _ | .setBusyLow _ _
  | .setForceBusy _ _ | .setSettleBusy _ _ | .setTickPrescale _ _ | .setRunNumber _ _ | .setAttnMask _ _ _ | .get _ _
  | .ruleWrite _ _ _ _ _ _ _ | .ruleRead _ _ | .epoch _ | .clear _ | .reference _ _ | .counter _ _ _ | .clearCounters _ =>
    true

end Sys2Proof
end

