-- ==== Sys2Proof/Decode.lean ====
section
/-! DEFINITION. Words and bytes that spell commands.
The table's rows give no bits (every "fields" is empty and no row has "fixed"), so no word spells a command.
A reader command does have bytes on its port: the command index of 09 section 9.5, its code and its argument bytes (R146, R180). -/

namespace Sys2Proof

/-- The command that a word spells by the table's bits: none, for no row gives bits. -/
def decodeTableWord (_nbits _w : Nat) : Option Instr := none

/-! ### The command index (R146) -/

/-- The known codes, each with its number of argument bytes. -/
def commandIndex : List (Byte × Nat) :=
  [(0x01, 0), (0x02, 0), (0x03, 0), (0x10, 0), (0x11, 4), (0x12, 0), (0x13, 0), (0x20, 0), (0x21, 0), (0x22, 0), (0x23, 1),
   (0x24, 0)] ++
  [(0x30, 0), (0x31, 0), (0x32, 3), (0x33, 1), (0x34, 6), (0x35, 1), (0x38, 0), (0x39, 0), (0x3A, 1), (0x40, 2), (0x41, 0)]

/-- The number of argument bytes that a code has; an unknown code has none. -/
def argumentCount (code : Byte) : Nat := (commandIndex.lookup code).getD 0

/-- The id of a reader's ATTN_MASK (R164). -/
def attnMaskId : Reader → Byte
  | .a => 0x24
  | .b => 0x2C
  | .c => 0x34
  | .d => 0x3C

/-- The commands of a reader that have no argument, by their codes. -/
def argumentlessCommands (r : Reader) : List (Byte × Instr) :=
  [(0x01, .status r), (0x02, .time r), (0x03, .causes r), (0x10, .take r), (0x12, .releaseOldest r), (0x13, .held r),
   (0x20, .attach r), (0x21, .detach r)] ++
  [(0x22, .resume r), (0x24, .readerReset r), (0x30, .claim r), (0x31, .yield r), (0x38, .epoch r), (0x39, .clear r),
   (0x41, .clearCounters r)]

/-- The row of a SET: its own where the setting has one, else SET (R162 to R164). -/
def setCommandOf (r : Reader) (id : Byte) (v : Value16) : Instr :=
  if id = 0x04 then .setBusyHigh r v
  else if id = 0x05 then .setBusyLow r v
  else if id = 0x07 then .setForceBusy r v
  else if id = 0x08 then .setSettleBusy r v
  else if id = 0x0B then .setRunNumber r v
  else if id = 0x0D then .setTickPrescale r v
  else if id = attnMaskId .a then .setAttnMask r .a v
  else if id = attnMaskId .b then .setAttnMask r .b v
  else if id = attnMaskId .c then .setAttnMask r .c v
  else if id = attnMaskId .d then .setAttnMask r .d v
  else .set r id v

/-- The command that a command byte and its argument bytes name on the port of `r` (R146, R180): none where the arguments are not as
many as the index gives the code. An unknown code has no arguments and is BAD_COMMAND. -/
def commandOfBytes (r : Reader) (code : Byte) (args : List Byte) : Option Instr :=
  match args with
  | [] => if knownCommandCodes.contains code then (argumentlessCommands r).lookup code else some (.badCommand r code)
  | [a] =>
    if code = 0x23 then some (.declareBusy r a)
    else if code = 0x33 then some (.get r a)
    else if code = 0x35 then some (.ruleRead r a)
    else if code = 0x3A then some (.reference r a)
    else none
  | [a, b] => if code = 0x40 then some (.counter r a b) else none
  | [a, b, c] => if code = 0x32 then some (setCommandOf r a (b ++ c)) else none
  | [a, b, c, d] => if code = 0x11 then some (.release r a (b ++ c ++ d)) else none
  | [a, b, c, d, e, f] => if code = 0x34 then some (.ruleWrite r a b c d e f) else none
  | _ => none

/-- The bytes of a SET: code, id, value, most significant byte first (R162). -/
def setBytes (id : Byte) (v : Value16) : List Byte := [0x32, id, v.extractLsb' 8 8, v.extractLsb' 0 8]

/-- The bytes of a reader command on its port: the command byte, then the argument bytes (R180); none for every other event. -/
def commandBytes : Instr → List Byte
  | .badCommand _ code => [code]
  | .status _ => [0x01]
  | .time _ => [0x02]
  | .causes _ => [0x03]
  | .take _ => [0x10]
  | .release _ e n => [0x11, e, n.extractLsb' 16 8, n.extractLsb' 8 8, n.extractLsb' 0 8]
  | .releaseOldest _ => [0x12]
  | .held _ => [0x13]
  | .attach _ => [0x20]
  | .detach _ => [0x21]
  | .resume _ => [0x22]
  | .declareBusy _ v => [0x23, v]
  | .readerReset _ => [0x24]
  | .claim _ => [0x30]
  | .yield _ => [0x31]
  | .set _ id v => setBytes id v
  | .setBusyHigh _ v => setBytes 0x04 v
  | .setBusyLow _ v => setBytes 0x05 v
  | .setForceBusy _ v => setBytes 0x07 v
  | .setSettleBusy _ v => setBytes 0x08 v
  | .setRunNumber _ v => setBytes 0x0B v
  | .setTickPrescale _ v => setBytes 0x0D v
  | .setAttnMask _ q v => setBytes (attnMaskId q) v
  | .get _ id => [0x33, id]
  | .ruleWrite _ index enable pattern mask sets interval => [0x34, index, enable, pattern, mask, sets, interval]
  | .ruleRead _ index => [0x35, index]
  | .epoch _ => [0x38]
  | .clear _ => [0x39]
  | .reference _ v => [0x3A, v]
  | .counter _ index form => [0x40, index, form]
  | .clearCounters _ => [0x41]
  | .deviceReset | .resetRelease | .tick | .holdExpiry _ | .minimumHoldExpiry | .stretchExpiry | .refclkEdge | .refclkAbsent
  | .settleComplete | .startMark | .stopMark | .addressByte _ | .headerByte _ | .classByte _ | .tagByte _
  | .triggerCheckByte _ | .holdingEntry | .epochCheckByte _ | .epochReset | .statusReadByte _ | .transactionOpen _
  | .transactionEnd _ => []

end Sys2Proof
end

