-- ==== Sys2Proof/Config.lean ====
section
/-! DEFINITION. What the part fixes once for all: sizes and fixed lengths the spec names.
No value of the spec is left to the implementation, so there is no free value here. -/

namespace Sys2Proof.Config

/-- The event table has 64 slots (R1). -/
abbrev tableSlots : Nat := 64

/-- The settle after a device reset lasts 65,536 cycles, whatever SETTLE_LENGTH holds (R106). -/
abbrev resetSettleCycles : Nat := 65536

/-- A later settle lasts SETTLE_LENGTH times 4096 cycles (R107). -/
abbrev settleUnit : Nat := 4096

/-- The monitor is ABSENT after 64 internal cycles without a REFCLK edge (R104). -/
abbrev monitorLimit : Nat := 64

/-- The sum of a frame's bytes from header to check byte, modulo 256 (R85). -/
abbrev frameSum : Byte := 0x5A#8

/-- At the rise of RST_N the minimum-hold timer loads with the reset value of BUSY_MINIMUM (R141). -/
abbrev resetMinimumHold : Nat := 4

end Sys2Proof.Config
end

