-- ==== Sys2Proof/Machine/State.lean ====
section
/-! DEFINITION. The state of the hub, block by block, and the state right after reset.
INVENTORY.md names the rule of the spec behind every field. -/

namespace Sys2Proof.Machine

/-- One value for each of the readers A, B, C and D. -/
structure PerReader (α : Type) where
  a : α
  b : α
  c : α
  d : α
  deriving DecidableEq, Repr

/-- A set of readers (00, Conventions). -/
abbrev ReaderSet := PerReader Bool

/-- The identity of an event: its epoch and its event number (00, Conventions). -/
structure Identity where
  epoch  : BitVec 8
  number : BitVec 24
  deriving DecidableEq, Repr

/-- Whether the timebase is SETTLING or SETTLED (R105). -/
inductive TimebaseState where
  | settling
  | settled
  deriving DecidableEq, Repr

/-- The quality of a record: the timebase state at its start mark (R6). -/
inductive Quality where
  | settled
  | unsettled
  deriving DecidableEq, Repr

/-- An event record (R4). -/
structure EventRecord where
  identity  : Identity
  runNumber : BitVec 16
  timestamp : BitVec 48
  quality   : Quality
  source    : BitVec 3
  cls       : BitVec 4
  tag       : Option (BitVec 16)
  gap       : BitVec 8
  rule      : Option (Fin 8)
  required  : ReaderSet
  taken     : ReaderSet
  released  : ReaderSet
  sampled   : Bool
  runStart  : Bool
  roll      : Bool
  forced    : Bool
  deriving DecidableEq, Repr

/-- A routing rule (R27). Interval and countdown are counts, 1 to 256. -/
structure RoutingRule where
  enable        : Bool
  patternSource : BitVec 3
  patternClass  : BitVec 4
  maskSource    : BitVec 3
  maskClass     : BitVec 4
  full          : ReaderSet
  sampled       : ReaderSet
  interval      : Nat
  countdown     : Nat
  deriving DecidableEq, Repr

/-- The eight routing rules (R27). -/
structure RuleTable where
  rule0 : RoutingRule
  rule1 : RoutingRule
  rule2 : RoutingRule
  rule3 : RoutingRule
  rule4 : RoutingRule
  rule5 : RoutingRule
  rule6 : RoutingRule
  rule7 : RoutingRule
  deriving DecidableEq, Repr

/-- The state of a reader (R42). -/
inductive ReaderState where
  | detached
  | attached
  | lapsed
  deriving DecidableEq, Repr

/-- A reader's hold timer (R65).
`pulseDue` is RUNNING with 1 left and the hold-clock pulse of the last tick still to be taken: HOLD_EXPIRY takes that pulse, which
is the expiry (log entry 4). -/
inductive HoldTimer where
  | stopped
  | untimed
  | running (value : Nat)
  | pulseDue
  deriving DecidableEq, Repr

/-- HOLD_POLICY (R70). -/
inductive HoldPolicy where
  | force
  | lapse
  deriving DecidableEq, Repr

/-- The five settings of one reader (R164). -/
structure ReaderSettings where
  holdLimit  : Nat
  holdClock  : Nat
  holdPolicy : HoldPolicy
  holdDepth  : Nat
  attnMask   : BitVec 9
  deriving DecidableEq, Repr

/-- What the hub keeps for one reader: its context (R42), its hold timer (R65), its cause set (R169) and its settings (R164). -/
structure ReaderContext where
  state        : ReaderState
  holdList     : List Identity
  declaredBusy : Bool
  missed       : BitVec 16
  holdTimer    : HoldTimer
  causes       : BitVec 9
  settings     : ReaderSettings
  deriving DecidableEq, Repr

/-- The nine causes, in the order of their numbers (R169). -/
inductive Cause where
  | available
  | forced
  | lapsed
  | epoch
  | runStart
  | cleared
  | refLost
  | settled
  | tokenLost
  deriving DecidableEq, Repr

/-- The frame states of the trigger port (R86). -/
inductive FrameState where
  | idle
  | address
  | header
  | classByte
  | tag
  | check
  | holding
  | sending
  | passive
  deriving DecidableEq, Repr

/-- The two kinds of frame (R83). -/
inductive FrameKind where
  | trigger
  | epoch
  deriving DecidableEq, Repr

/-- The fields of the frame now arriving (R83, R84), with the sum of its bytes so far (R85). -/
structure Frame where
  broadcast : Bool
  kind      : FrameKind
  source    : BitVec 3
  tagged    : Bool
  cls       : BitVec 4
  tagBytes  : List Byte
  sum       : Byte
  deriving DecidableEq, Repr

/-- What the hub last did on the trigger bus (R78): nothing, an acknowledge, a refusal, the clock held low, or a byte sent. -/
inductive Response where
  | quiet
  | acknowledged
  | notAcknowledged
  | clockHeld
  | sent (byte : Byte)
  deriving DecidableEq, Repr

/-- The stretch timer (R91); `pulseDue` as for the hold timer (log entry 4). -/
inductive StretchTimer where
  | stopped
  | running (value : Nat)
  | pulseDue
  deriving DecidableEq, Repr

/-- The trigger port (05; the block table of 00). -/
structure TriggerPort where
  state             : FrameState
  frame             : Frame
  latchedCount      : BitVec 48
  latchedQuality    : Quality
  capturedAddress   : BitVec 7
  capturedBroadcast : Bool
  stretchTimer      : StretchTimer
  gap               : BitVec 8
  statusBytes       : List Byte
  response          : Response
  deriving DecidableEq, Repr

/-- The reference selected (R103). -/
inductive ReferenceSelection where
  | internal
  | external
  deriving DecidableEq, Repr

/-- The judgement of the reference monitor (R104). -/
inductive MonitorState where
  | present
  | absent
  deriving DecidableEq, Repr

/-- The timebase (06). `divider` counts the edges of the selected reference since the last tick or restart (R101).
`uncounted` is how many cycles of the internal reference may have passed, in ticks that a write of TICK_PRESCALE cut short during the
settle, without a command that counts them (log entry 5). -/
structure Timebase where
  count         : BitVec 48
  selection     : ReferenceSelection
  state         : TimebaseState
  settleCounter : Nat
  divider       : Nat
  uncounted     : Nat
  monitor       : MonitorState
  monitorCount  : Nat
  deriving DecidableEq, Repr

/-- The numbering unit (R117). -/
structure Numbering where
  nextNumber   : BitVec 24
  epoch        : BitVec 8
  runNumber    : BitVec 16
  epochPending : Bool
  rollMark     : Bool
  deriving DecidableEq, Repr

/-- The minimum-hold timer (R135).
`pulseDue` is RUNNING with 1 left and the coarse pulse of the last tick still to reach the busy unit: MINIMUM_HOLD_EXPIRY is that
pulse (log entry 4). -/
inductive MinimumHold where
  | idle
  | running (value : Nat)
  | pulseDue
  | elapsed
  deriving DecidableEq, Repr

/-- The busy unit (08): the FILL hysteresis state, the output and the minimum-hold timer. -/
structure BusyUnit where
  fillActive  : Bool
  output      : Bool
  minimumHold : MinimumHold
  deriving DecidableEq, Repr

/-- EPOCH_SOURCE (R117). -/
inductive EpochSource where
  | bus
  | command
  deriving DecidableEq, Repr

/-- The shared settings (R163), RUN_NUMBER excepted, which is the run number itself (R129). -/
structure Settings where
  busAddress   : BitVec 7
  broadcast    : Bool
  stretchLimit : Nat
  busyHigh     : Nat
  busyLow      : Nat
  busyMinimum  : Nat
  forceBusy    : Bool
  settleBusy   : Bool
  epochSource  : EpochSource
  runClass     : Nat
  defaultSet   : ReaderSet
  tickPrescale : Nat
  settleLength : Nat
  countersOpen : Bool
  deriving DecidableEq, Repr

/-- The phases of a transaction (R144). -/
inductive Phase where
  | idle
  | command
  | arguments
  | turnaround
  | status
  | reply
  | trailing
  deriving DecidableEq, Repr

/-- The status codes (R152). -/
inductive StatusCode where
  | ok
  | empty
  | holdFull
  | notHeld
  | badState
  | notHolder
  | tokenTaken
  | badIndex
  | badValue
  | notDrained
  | noReference
  | badCommand
  deriving DecidableEq, Repr

/-- The transaction state of one reader port (R144), with the level of its CS_N line (R143, R156); `sent` counts the reply bytes that
the hub has sent. -/
structure ReaderPort where
  csLow   : Bool
  phase   : Phase
  header  : Byte
  command : Option Byte
  args    : List Byte
  status  : Option StatusCode
  reply   : List Byte
  sent    : Nat
  deriving DecidableEq, Repr

/-- The counter bank (R175). -/
structure Counters where
  triggersAccepted : BitVec 40
  refusedFull      : BitVec 40
  refusedEpoch     : BitVec 40
  badFrames        : BitVec 40
  stretches        : BitVec 40
  epochChanges     : BitVec 40
  referenceLosses  : BitVec 40
  busyTicks        : BitVec 40
  forcedReleases   : PerReader (BitVec 40)
  takes            : PerReader (BitVec 40)
  deriving DecidableEq, Repr

/-- The whole hub, and the commands that wait for it, first in, first out. -/
structure State where
  pending   : List Instr
  rstLow    : Bool
  table     : List EventRecord
  rules     : RuleTable
  readers   : PerReader ReaderContext
  trigger   : TriggerPort
  timebase  : Timebase
  numbering : Numbering
  busy      : BusyUnit
  settings  : Settings
  token     : Option Reader
  ports     : PerReader ReaderPort
  counters  : Counters
  deriving DecidableEq, Repr

/-- Why the hub could stop: never.
The spec gives every event an effect in every state, so the type has no constructor. -/
inductive Fault where
  deriving DecidableEq, Repr

/-- Why a command could have no meaning. -/
inductive Refusal where
  /-- Raised by exec for a row that has no meaning yet (no row is left so); safe. -/
  | notModelled (mnemonic : String)
  deriving DecidableEq, Repr

/-! ### The values after a device reset -/

/-- The same value for the four readers. -/
def PerReader.const {α : Type} (x : α) : PerReader α := ⟨x, x, x, x⟩

/-- The empty set of readers. -/
def ReaderSet.none : ReaderSet := PerReader.const false

/-- The set {A, B, C, D}. -/
def ReaderSet.all : ReaderSet := PerReader.const true

/-- A rule after a device reset (R27). -/
def RoutingRule.atReset : RoutingRule :=
  { enable := false, patternSource := 0, patternClass := 0, maskSource := 0, maskClass := 0,
    full := ReaderSet.none, sampled := ReaderSet.none, interval := 1, countdown := 1 }

/-- The rule table after a device reset (R40). -/
def RuleTable.atReset : RuleTable :=
  ⟨.atReset, .atReset, .atReset, .atReset, .atReset, .atReset, .atReset, .atReset⟩

/-- A reader's settings after a device reset (R164). -/
def ReaderSettings.atReset : ReaderSettings :=
  { holdLimit := 0, holdClock := 3, holdPolicy := .force, holdDepth := 4, attnMask := 0x1FF }

/-- A reader's context after a device reset (R42, R65, R169). -/
def ReaderContext.atReset : ReaderContext :=
  { state := .detached, holdList := [], declaredBusy := false, missed := 0, holdTimer := .stopped,
    causes := 0, settings := .atReset }

/-- No frame in progress (R79).
The spec gives the fields of a frame no values where there is none: trigger, source, class and sum 0, untagged, no tag byte and no
broadcast are a DESIGN CHOICE (log entry 15). -/
def Frame.empty : Frame :=
  { broadcast := false, kind := .trigger, source := 0, tagged := false, cls := 0, tagBytes := [], sum := 0 }

/-- The trigger port after a device reset (R79).
The captured addresses are the settings' reset values, a DESIGN CHOICE (log entry 8): nothing uses them before a start mark. -/
def TriggerPort.atReset : TriggerPort :=
  { state := .idle, frame := .empty, latchedCount := 0, latchedQuality := .unsettled, capturedAddress := 0x3C,
    capturedBroadcast := true, stretchTimer := .stopped, gap := 0, statusBytes := [], response := .quiet }

/-- The timebase after a device reset (R116). -/
def Timebase.atReset : Timebase :=
  { count := 0, selection := .internal, state := .settling, settleCounter := Config.resetSettleCycles, divider := 0,
    uncounted := 0, monitor := .absent, monitorCount := 0 }

/-- The numbering unit after a device reset (R117). -/
def Numbering.atReset : Numbering :=
  { nextNumber := 0, epoch := 0, runNumber := 0, epochPending := false, rollMark := false }

/-- The shared settings after a device reset (R163). -/
def Settings.atReset : Settings :=
  { busAddress := 0x3C, broadcast := true, stretchLimit := 16, busyHigh := 48, busyLow := 32, busyMinimum := 4,
    forceBusy := false, settleBusy := true, epochSource := .bus, runClass := 16, defaultSet := ReaderSet.all,
    tickPrescale := 0, settleLength := 4, countersOpen := true }

/-- An idle port whose CS_N is at the given level (R144, R156).
A header of 0 is a DESIGN CHOICE (log entry 9): none is latched yet. -/
def ReaderPort.idleAt (csLow : Bool) : ReaderPort :=
  { csLow := csLow, phase := .idle, header := 0, command := none, args := [], status := none, reply := [],
    sent := 0 }

/-- The counters after a device reset (R175). -/
def Counters.zero : Counters :=
  { triggersAccepted := 0, refusedFull := 0, refusedEpoch := 0, badFrames := 0, stretches := 0, epochChanges := 0,
    referenceLosses := 0, busyTicks := 0, forcedReleases := PerReader.const 0, takes := PerReader.const 0 }

/-- The hub while RST_N is low (R62, R79, R100, R116, R117, R141, R156): every block at its reset values, BUSY driven asserted.
The minimum-hold timer stands at ELAPSED until the rise loads it, a DESIGN CHOICE (log entry 7).
The waiting commands and the levels of the CS_N lines belong to the outside and are kept. -/
def State.inReset (pending : List Instr) (csLow : PerReader Bool) : State :=
  { pending := pending, rstLow := true, table := [], rules := .atReset, readers := PerReader.const .atReset,
    trigger := .atReset, timebase := .atReset, numbering := .atReset,
    busy := { fillActive := false, output := true, minimumHold := .elapsed },
    settings := .atReset, token := none,
    ports := ⟨.idleAt csLow.a, .idleAt csLow.b, .idleAt csLow.c, .idleAt csLow.d⟩, counters := .zero }

/-- The hub right after reset: the state at the rise of RST_N, with BUSY asserted, the minimum-hold timer loaded with 4 (R141),
the fixed settle of 65,536 cycles begun (R106), no command waiting and every CS_N high (log entries 2 and 9). -/
def State.reset : State :=
  { State.inReset [] (PerReader.const false) with
    rstLow := false,
    busy := { fillActive := false, output := true, minimumHold := .running Config.resetMinimumHold } }

end Sys2Proof.Machine
end

