-- ==== Sys2Proof/Machine/Access.lean ====
section
/-! DEFINITION. Access to the parts of the state: per-reader values, sets of readers, the rule table, and one update per block. -/

namespace Sys2Proof.Machine

/-! ### One value per reader -/

/-- The value of one reader. -/
def PerReader.get {α : Type} (p : PerReader α) : Reader → α
  | .a => p.a
  | .b => p.b
  | .c => p.c
  | .d => p.d

/-- One reader's value replaced. -/
def PerReader.set {α : Type} (p : PerReader α) (r : Reader) (x : α) : PerReader α :=
  match r with
  | .a => { p with a := x }
  | .b => { p with b := x }
  | .c => { p with c := x }
  | .d => { p with d := x }

/-- Every reader's value computed from the reader and its old value. -/
def PerReader.mapWith {α β : Type} (f : Reader → α → β) (p : PerReader α) : PerReader β :=
  ⟨f .a p.a, f .b p.b, f .c p.c, f .d p.d⟩

/-- The four readers, A first. -/
def allReaders : List Reader := [.a, .b, .c, .d]

/-- The number that stands for a reader in byte 5 of STATUS (R157). -/
def readerNumber : Reader → Nat
  | .a => 1
  | .b => 2
  | .c => 3
  | .d => 4

/-! ### Sets of readers -/

/-- The readers that satisfy a condition. -/
def ReaderSet.ofPred (f : Reader → Bool) : ReaderSet := ⟨f .a, f .b, f .c, f .d⟩

/-- The readers in either set. -/
def ReaderSet.union (x y : ReaderSet) : ReaderSet := ReaderSet.ofPred fun r => x.get r || y.get r

/-- The readers in both sets. -/
def ReaderSet.inter (x y : ReaderSet) : ReaderSet := ReaderSet.ofPred fun r => x.get r && y.get r

/-- A set packed into four bits, A in the lowest (R179). -/
def ReaderSet.toNibble (x : ReaderSet) : BitVec 4 :=
  BitVec.ofBool x.d ++ BitVec.ofBool x.c ++ BitVec.ofBool x.b ++ BitVec.ofBool x.a

/-- The set packed in four bits (R179). -/
def ReaderSet.ofNibble (n : BitVec 4) : ReaderSet :=
  ⟨n.getLsbD 0, n.getLsbD 1, n.getLsbD 2, n.getLsbD 3⟩

/-! ### The rule table -/

/-- One routing rule by its index. -/
def RuleTable.get (t : RuleTable) (i : Fin 8) : RoutingRule :=
  match i with
  | 0 => t.rule0
  | 1 => t.rule1
  | 2 => t.rule2
  | 3 => t.rule3
  | 4 => t.rule4
  | 5 => t.rule5
  | 6 => t.rule6
  | 7 => t.rule7

/-- One routing rule replaced. -/
def RuleTable.set (t : RuleTable) (i : Fin 8) (x : RoutingRule) : RuleTable :=
  match i with
  | 0 => { t with rule0 := x }
  | 1 => { t with rule1 := x }
  | 2 => { t with rule2 := x }
  | 3 => { t with rule3 := x }
  | 4 => { t with rule4 := x }
  | 5 => { t with rule5 := x }
  | 6 => { t with rule6 := x }
  | 7 => { t with rule7 := x }

/-! ### One update per block of the state -/

/-- The state with its pending replaced. -/
def State.withPending (s : State) (x : List Instr) : State := { s with pending := x }

/-- The state with its rstLow replaced. -/
def State.withRstLow (s : State) (x : Bool) : State := { s with rstLow := x }

/-- The state with its table replaced. -/
def State.withTable (s : State) (x : List EventRecord) : State := { s with table := x }

/-- The state with its rules replaced. -/
def State.withRules (s : State) (x : RuleTable) : State := { s with rules := x }

/-- The state with its readers replaced. -/
def State.withReaders (s : State) (x : PerReader ReaderContext) : State := { s with readers := x }

/-- The state with its trigger replaced. -/
def State.withTrigger (s : State) (x : TriggerPort) : State := { s with trigger := x }

/-- The state with its timebase replaced. -/
def State.withTimebase (s : State) (x : Timebase) : State := { s with timebase := x }

/-- The state with its numbering replaced. -/
def State.withNumbering (s : State) (x : Numbering) : State := { s with numbering := x }

/-- The state with its busy replaced. -/
def State.withBusy (s : State) (x : BusyUnit) : State := { s with busy := x }

/-- The state with its settings replaced. -/
def State.withSettings (s : State) (x : Settings) : State := { s with settings := x }

/-- The state with its token replaced. -/
def State.withToken (s : State) (x : Option Reader) : State := { s with token := x }

/-- The state with its ports replaced. -/
def State.withPorts (s : State) (x : PerReader ReaderPort) : State := { s with ports := x }

/-- The state with its counters replaced. -/
def State.withCounters (s : State) (x : Counters) : State := { s with counters := x }

/-- One reader's context changed. -/
def State.modifyReader (s : State) (r : Reader) (f : ReaderContext → ReaderContext) : State :=
  s.withReaders (s.readers.set r (f (s.readers.get r)))

end Sys2Proof.Machine
end

