-- ==== Sys2Proof/Machine/Operands.lean ====
section
/-! DEFINITION. Operand forms: the fields of the bytes the hub receives (12, R179, R180), the setting ids and their ranges
(R163, R164, R165), and where each setting is kept. -/

namespace Sys2Proof.Machine

/-- A number as `n` bytes, most significant byte first (R179). -/
def bigEndian : Nat → Nat → List Byte
  | 0, _ => []
  | n + 1, v => BitVec.ofNat 8 (v / 256 ^ n) :: bigEndian n v

/-! ### Bytes of the trigger bus (R81, R83, R84) -/

/-- The seven address bits of an address byte. -/
def addressOf (byte : Byte) : BitVec 7 := byte.extractLsb' 1 7

/-- The direction bit of an address byte: set for a read from the hub. -/
def isRead (byte : Byte) : Bool := byte.getLsbD 0

/-- The type bits 7–6 of a header. -/
def headerType (byte : Byte) : BitVec 2 := byte.extractLsb' 6 2

/-- The tag bit 5 of a header. -/
def headerTag (byte : Byte) : Bool := byte.getLsbD 5

/-- The source bits 4–2 of a header. -/
def headerSource (byte : Byte) : BitVec 3 := byte.extractLsb' 2 3

/-- The bits 1–0 of a header, which must be 0. -/
def headerLow (byte : Byte) : BitVec 2 := byte.extractLsb' 0 2

/-- The kind of frame a valid header opens; none for a bad one (R83). -/
def headerKind (byte : Byte) : Option FrameKind :=
  if headerLow byte ≠ 0 then none
  else if headerType byte = 0 then some .trigger
  else if headerType byte = 1 ∧ headerTag byte = false then some .epoch
  else none

/-- The class bits 7–4 of a class byte. -/
def classOf (byte : Byte) : BitVec 4 := byte.extractLsb' 4 4

/-- The bits 3–0 of a class byte, which must be 0. -/
def classLow (byte : Byte) : BitVec 4 := byte.extractLsb' 0 4

/-- The tag of a frame: its two tag bytes, most significant first, when the tag bit is set (R7). -/
def frameTag (f : Frame) : Option (BitVec 16) :=
  if f.tagged then some (f.tagBytes.foldl (fun v byte => (v <<< 8) ||| byte.setWidth 16) 0) else none

/-! ### Bytes of RULE_WRITE (R36, R180) -/

/-- The source bits 6–4 of a pattern or mask byte. -/
def ruleSource (byte : Byte) : BitVec 3 := byte.extractLsb' 4 3

/-- The class bits 3–0 of a pattern or mask byte. -/
def ruleClass (byte : Byte) : BitVec 4 := byte.extractLsb' 0 4

/-- The full set of a sets byte, its high half. -/
def fullSetOf (byte : Byte) : ReaderSet := ReaderSet.ofNibble (byte.extractLsb' 4 4)

/-- The sampled set of a sets byte, its low half. -/
def sampledSetOf (byte : Byte) : ReaderSet := ReaderSet.ofNibble (byte.extractLsb' 0 4)

/-- An interval or countdown byte, in which 0 stands for 256. -/
def countOf (byte : Byte) : Nat := if byte = 0 then 256 else byte.toNat

/-- The index byte of RULE_WRITE and RULE_READ: none above 7. -/
def ruleIndex (byte : Byte) : Option (Fin 8) :=
  if h : byte.toNat < 8 then some ⟨byte.toNat, h⟩ else none

/-- The rule that RULE_WRITE writes, its countdown equal to the interval (R36). -/
def ruleOf (enable pattern mask sets interval : Byte) : RoutingRule :=
  { enable := enable == 1, patternSource := ruleSource pattern, patternClass := ruleClass pattern,
    maskSource := ruleSource mask, maskClass := ruleClass mask, full := fullSetOf sets, sampled := sampledSetOf sets,
    interval := countOf interval, countdown := countOf interval }

/-! ### The settings -/

/-- The fifteen shared settings (R163). -/
inductive SharedSetting where
  | busAddress | broadcast | stretchLimit | busyHigh | busyLow | busyMinimum | forceBusy | settleBusy | epochSource
  | runClass | runNumber | defaultSet | tickPrescale | settleLength | countersOpen
  deriving DecidableEq, Repr

/-- The five settings of each reader (R164). -/
inductive ReaderSetting where
  | holdLimit | holdClock | holdPolicy | holdDepth | attnMask
  deriving DecidableEq, Repr

/-- A setting: a shared one, or one of a reader. -/
inductive Setting where
  | shared (x : SharedSetting)
  | ofReader (r : Reader) (x : ReaderSetting)
  deriving DecidableEq, Repr

/-- The ids of the shared settings (R163). -/
def sharedSettingId : SharedSetting → Byte
  | .busAddress => 0x01
  | .broadcast => 0x02
  | .stretchLimit => 0x03
  | .busyHigh => 0x04
  | .busyLow => 0x05
  | .busyMinimum => 0x06
  | .forceBusy => 0x07
  | .settleBusy => 0x08
  | .epochSource => 0x09
  | .runClass => 0x0A
  | .runNumber => 0x0B
  | .defaultSet => 0x0C
  | .tickPrescale => 0x0D
  | .settleLength => 0x0E
  | .countersOpen => 0x0F

/-- The base of a reader's setting ids (R164). -/
def readerSettingBase : Reader → Byte
  | .a => 0x20
  | .b => 0x28
  | .c => 0x30
  | .d => 0x38

/-- The offset of a per-reader setting (R164). -/
def readerSettingOffset : ReaderSetting → Byte
  | .holdLimit => 0
  | .holdClock => 1
  | .holdPolicy => 2
  | .holdDepth => 3
  | .attnMask => 4

/-- The id of a setting (R163, R164). -/
def settingId : Setting → Byte
  | .shared x => sharedSettingId x
  | .ofReader r x => readerSettingBase r + readerSettingOffset x

/-- Every shared setting. -/
def sharedSettings : List SharedSetting :=
  [.busAddress, .broadcast, .stretchLimit, .busyHigh, .busyLow, .busyMinimum, .forceBusy, .settleBusy, .epochSource,
   .runClass, .runNumber, .defaultSet, .tickPrescale, .settleLength, .countersOpen]

/-- Every per-reader setting. -/
def readerSettings : List ReaderSetting := [.holdLimit, .holdClock, .holdPolicy, .holdDepth, .attnMask]

/-- The thirty-five settings (10). -/
def allSettings : List Setting :=
  sharedSettings.map .shared ++ allReaders.flatMap fun r => readerSettings.map (.ofReader r)

/-- The setting an id names; none for an unknown id (R164). -/
def settingOfId (id : Byte) : Option Setting := allSettings.find? fun x => settingId x == id

/-- The range of a setting, both ends included (R163, R164). -/
def settingRange : Setting → Nat × Nat
  | .shared .busAddress => (0x08, 0x77)
  | .shared .broadcast => (0, 1)
  | .shared .stretchLimit => (0, 255)
  | .shared .busyHigh => (1, 64)
  | .shared .busyLow => (0, 63)
  | .shared .busyMinimum => (0, 255)
  | .shared .forceBusy => (0, 1)
  | .shared .settleBusy => (0, 1)
  | .shared .epochSource => (0, 1)
  | .shared .runClass => (0, 16)
  | .shared .runNumber => (0, 65535)
  | .shared .defaultSet => (0, 15)
  | .shared .tickPrescale => (0, 7)
  | .shared .settleLength => (1, 15)
  | .shared .countersOpen => (0, 1)
  | .ofReader _ .holdLimit => (0, 255)
  | .ofReader _ .holdClock => (0, 7)
  | .ofReader _ .holdPolicy => (0, 1)
  | .ofReader _ .holdDepth => (1, 4)
  | .ofReader _ .attnMask => (0, 0x1FF)

/-- The marks of the FILL source stay ordered: a value of one is checked against the other as it stands (R165). -/
def marksStayOrdered (x : Setting) (v : Value16) (s : State) : Bool :=
  match x with
  | .shared .busyHigh => s.settings.busyLow < v.toNat
  | .shared .busyLow => v.toNat < s.settings.busyHigh
  | _ => true

/-- Whether a SET accepts the value (R165). -/
def settingAccepts (x : Setting) (v : Value16) (s : State) : Bool :=
  (settingRange x).1 ≤ v.toNat && v.toNat ≤ (settingRange x).2 && marksStayOrdered x v s

/-- The value of a flag setting. -/
def flagValue (x : Bool) : Value16 := if x then 1 else 0

/-- EPOCH_SOURCE as a number: 0 BUS, 1 COMMAND (R117). -/
def epochSourceValue : EpochSource → Value16
  | .bus => 0
  | .command => 1

/-- HOLD_POLICY as a number: 0 FORCE, 1 LAPSE (R70). -/
def holdPolicyValue : HoldPolicy → Value16
  | .force => 0
  | .lapse => 1

/-- The stored value of a shared setting (R167). -/
def sharedSettingValue (x : SharedSetting) (s : State) : Value16 :=
  match x with
  | .busAddress => s.settings.busAddress.setWidth 16
  | .broadcast => flagValue s.settings.broadcast
  | .stretchLimit => BitVec.ofNat 16 s.settings.stretchLimit
  | .busyHigh => BitVec.ofNat 16 s.settings.busyHigh
  | .busyLow => BitVec.ofNat 16 s.settings.busyLow
  | .busyMinimum => BitVec.ofNat 16 s.settings.busyMinimum
  | .forceBusy => flagValue s.settings.forceBusy
  | .settleBusy => flagValue s.settings.settleBusy
  | .epochSource => epochSourceValue s.settings.epochSource
  | .runClass => BitVec.ofNat 16 s.settings.runClass
  | .runNumber => s.numbering.runNumber
  | .defaultSet => s.settings.defaultSet.toNibble.setWidth 16
  | .tickPrescale => BitVec.ofNat 16 s.settings.tickPrescale
  | .settleLength => BitVec.ofNat 16 s.settings.settleLength
  | .countersOpen => flagValue s.settings.countersOpen

/-- The stored value of a per-reader setting (R167). -/
def readerSettingValue (x : ReaderSetting) (c : ReaderSettings) : Value16 :=
  match x with
  | .holdLimit => BitVec.ofNat 16 c.holdLimit
  | .holdClock => BitVec.ofNat 16 c.holdClock
  | .holdPolicy => holdPolicyValue c.holdPolicy
  | .holdDepth => BitVec.ofNat 16 c.holdDepth
  | .attnMask => c.attnMask.setWidth 16

/-- The value GET returns (R167). -/
def settingValue (x : Setting) (s : State) : Value16 :=
  match x with
  | .shared y => sharedSettingValue y s
  | .ofReader r y => readerSettingValue y (s.readers.get r).settings

/-- A shared setting stored; RUN_NUMBER is the run number itself (R129, R163). -/
def storeShared (x : SharedSetting) (v : Value16) (s : State) : State :=
  let t := s.settings
  match x with
  | .busAddress => s.withSettings { t with busAddress := v.setWidth 7 }
  | .broadcast => s.withSettings { t with broadcast := v == 1 }
  | .stretchLimit => s.withSettings { t with stretchLimit := v.toNat }
  | .busyHigh => s.withSettings { t with busyHigh := v.toNat }
  | .busyLow => s.withSettings { t with busyLow := v.toNat }
  | .busyMinimum => s.withSettings { t with busyMinimum := v.toNat }
  | .forceBusy => s.withSettings { t with forceBusy := v == 1 }
  | .settleBusy => s.withSettings { t with settleBusy := v == 1 }
  | .epochSource => s.withSettings { t with epochSource := if v == 1 then .command else .bus }
  | .runClass => s.withSettings { t with runClass := v.toNat }
  | .runNumber => s.withNumbering { s.numbering with runNumber := v }
  | .defaultSet => s.withSettings { t with defaultSet := ReaderSet.ofNibble (v.setWidth 4) }
  | .tickPrescale => s.withSettings { t with tickPrescale := v.toNat }
  | .settleLength => s.withSettings { t with settleLength := v.toNat }
  | .countersOpen => s.withSettings { t with countersOpen := v == 1 }

/-- A per-reader setting stored (R164). -/
def storeReaderSetting (x : ReaderSetting) (v : Value16) (c : ReaderSettings) : ReaderSettings :=
  match x with
  | .holdLimit => { c with holdLimit := v.toNat }
  | .holdClock => { c with holdClock := v.toNat }
  | .holdPolicy => { c with holdPolicy := if v == 1 then .lapse else .force }
  | .holdDepth => { c with holdDepth := v.toNat }
  | .attnMask => { c with attnMask := v.setWidth 9 }

/-- A setting stored at the effect point of its SET (R166). -/
def storeSetting (x : Setting) (v : Value16) (s : State) : State :=
  match x with
  | .shared y => storeShared y v s
  | .ofReader r y => s.modifyReader r fun c => { c with settings := storeReaderSetting y v c.settings }

end Sys2Proof.Machine
end

