-- ==== Sys2Proof/Machine/Flags.lean ====
section
/-! DEFINITION. Every flag, report byte and status the hub computes from its state: the busy sources (R131), the attention lines (R169),
the port header (R145), the busy and timebase bytes (R153), the trigger port's status bytes (R96), the record image (R181). -/

namespace Sys2Proof.Machine

/-- The fill: the number of live records (R1). -/
def fill (s : State) : Nat := s.table.length

/-- Whether the record is available to the reader: required, and in neither of the other sets (R15). -/
def availableTo (r : Reader) (x : EventRecord) : Bool :=
  x.required.get r && !x.taken.get r && !x.released.get r

/-- The reader's available count (R15). -/
def availableCount (r : Reader) (s : State) : Nat := s.table.countP (availableTo r)

/-- The reader is ATTACHED. -/
def isAttached (r : Reader) (s : State) : Bool := (s.readers.get r).state == .attached

/-- The readers that are ATTACHED. -/
def attachedSet (s : State) : ReaderSet := ReaderSet.ofPred fun r => isAttached r s

/-- The readers that are LAPSED. -/
def lapsedSet (s : State) : ReaderSet := ReaderSet.ofPred fun r => (s.readers.get r).state == .lapsed

/-! ### The busy sources (R131) -/

/-- FILL: the hysteresis state is ACTIVE. -/
def fillSource (s : State) : Bool := s.busy.fillActive

/-- FORCED: FORCE_BUSY is 1. -/
def forcedSource (s : State) : Bool := s.settings.forceBusy

/-- EPOCH: an epoch reset is pending. -/
def epochSourceActive (s : State) : Bool := s.numbering.epochPending

/-- SETTLING: the timebase is SETTLING and SETTLE_BUSY is 1. -/
def settlingSource (s : State) : Bool := s.timebase.state == .settling && s.settings.settleBusy

/-- READERS: an ATTACHED reader has its busy declaration on. -/
def readersSource (s : State) : Bool :=
  allReaders.any fun r => isAttached r s && (s.readers.get r).declaredBusy

/-- At least one source is active. -/
def anySource (s : State) : Bool :=
  fillSource s || forcedSource s || epochSourceActive s || settlingSource s || readersSource s

/-! ### Causes and attention lines (R169) -/

/-- The number of a cause (R169). -/
def causeNumber : Cause → Nat
  | .available => 0
  | .forced => 1
  | .lapsed => 2
  | .epoch => 3
  | .runStart => 4
  | .cleared => 5
  | .refLost => 6
  | .settled => 7
  | .tokenLost => 8

/-- The bit of a cause in a cause set. -/
def causeBit (c : Cause) : BitVec 9 := BitVec.ofNat 9 (2 ^ causeNumber c)

/-- The reader's ATTN_N line is asserted exactly when its cause set and its mask share a cause (R169). -/
def attnAsserted (r : Reader) (s : State) : Bool :=
  ((s.readers.get r).causes &&& (s.readers.get r).settings.attnMask) != 0

/-- The hub drives SCL low in HOLDING alone (R78). -/
def clockHeldLow (s : State) : Bool := s.trigger.state == .holding

/-! ### Report bytes -/

/-- The number of a reader's state in reports (R43). -/
def readerStateNumber : ReaderState → Nat
  | .detached => 0
  | .attached => 1
  | .lapsed => 2

/-- A byte from its eight bits, bit 7 first. -/
def byteOfBits (b7 b6 b5 b4 b3 b2 b1 b0 : Bool) : Byte :=
  BitVec.ofBool b7 ++ BitVec.ofBool b6 ++ BitVec.ofBool b5 ++ BitVec.ofBool b4 ++
    BitVec.ofBool b3 ++ BitVec.ofBool b2 ++ BitVec.ofBool b1 ++ BitVec.ofBool b0

/-- The port header (R145). -/
def portHeader (r : Reader) (s : State) : Byte :=
  BitVec.ofBool (attnAsserted r s) ++ BitVec.ofBool s.busy.output ++
    BitVec.ofNat 2 (readerStateNumber (s.readers.get r).state) ++ BitVec.ofNat 4 (min (availableCount r s) 15)

/-- Byte 6 of STATUS: the output, the sources and the caller's own declaration (R142). -/
def busyByte (r : Reader) (s : State) : Byte :=
  byteOfBits false (s.readers.get r).declaredBusy (readersSource s) (settlingSource s) (epochSourceActive s)
    (forcedSource s) (fillSource s) s.busy.output

/-- Byte 8 of STATUS and byte 6 of TIME (R113, R153). -/
def timebaseByte (s : State) : Byte :=
  byteOfBits false false false false false (s.timebase.monitor == .present) (s.timebase.selection == .external)
    (s.timebase.state == .settled)

/-- Byte 5 of STATUS: the token holder (R157). -/
def tokenByte (s : State) : Byte :=
  match s.token with
  | none => 0
  | some r => BitVec.ofNat 8 (readerNumber r)

/-- The two bytes a status read latches (R96). -/
def triggerStatusBytes (s : State) : List Byte :=
  [byteOfBits s.busy.output s.numbering.epochPending (s.timebase.state == .settling) (fill s == 64) false false false false,
   BitVec.ofNat 8 (fill s)]

/-- The code of a status in the status byte (R152). -/
def statusByte : StatusCode → Byte
  | .ok => 0x00
  | .empty => 0x01
  | .holdFull => 0x02
  | .notHeld => 0x03
  | .badState => 0x04
  | .notHolder => 0x05
  | .tokenTaken => 0x06
  | .badIndex => 0x07
  | .badValue => 0x08
  | .notDrained => 0x09
  | .noReference => 0x0A
  | .badCommand => 0x0B

/-! ### The bytes of a transaction on SDO -/

/-- What the hub sends in a transaction, byte by byte (R144, R150): the header during the command byte, 0x00 for each argument byte
and for the turnaround byte, the status byte, the reply. -/
def sentBytes (p : ReaderPort) : List Byte :=
  p.header :: (p.args.map fun _ => 0x00) ++
    match p.status with
    | none => []
    | some c => 0x00 :: statusByte c :: p.reply

/-- The byte that the hub sends during the current byte of the transaction (R144, R150).
The spec does not say what a port presents in IDLE, to a reader whose transaction a reset has cut for one (R144, R156): 0x00 there is a
DESIGN CHOICE (log entry 10). -/
def sendingByte (p : ReaderPort) : Byte :=
  match p.phase with
  | .command => p.header
  | .status => (p.status.map statusByte).getD 0x00
  | .reply => p.reply.getD p.sent 0x00
  | .idle | .arguments | .turnaround | .trailing => 0x00

/-- The byte that the hub sends at a place of the transaction, counted from 0: past the reply it sends 0x00 (R150). -/
def sentByte (p : ReaderPort) (n : Nat) : Byte := (sentBytes p).getD n 0x00

/-! ### Images -/

/-- The flags byte of a record image (12.3). -/
def recordFlags (x : EventRecord) : Byte :=
  byteOfBits false false x.forced x.tag.isSome x.roll x.runStart x.sampled (x.quality == .unsettled)

/-- The rule byte of a record image: 0xFF for none (R181). -/
def ruleByte : Option (Fin 8) → Byte
  | none => 0xFF
  | some i => BitVec.ofNat 8 i.val

/-- The 19-byte record image (R47, R181, 12.3). -/
def recordImage (x : EventRecord) : List Byte :=
  bigEndian 3 x.identity.number.toNat ++ bigEndian 1 x.identity.epoch.toNat ++ bigEndian 2 x.runNumber.toNat ++
    bigEndian 6 x.timestamp.toNat ++ [(0 : BitVec 1) ++ x.source ++ x.cls, recordFlags x] ++
    bigEndian 2 (x.tag.getD 0).toNat ++ [x.gap, ruleByte x.rule, x.required.toNibble.setWidth 8]

/-- An identity in a HELD entry: the epoch, then the event number (R182). -/
def identityBytes (x : Identity) : List Byte := bigEndian 1 x.epoch.toNat ++ bigEndian 3 x.number.toNat

/-- The 17 bytes of HELD: the count, then four entries, zero beyond the last (R52). -/
def heldBytes (l : List Identity) : List Byte :=
  BitVec.ofNat 8 l.length :: ((l.flatMap identityBytes) ++ List.replicate 16 0).take 16

/-- A pattern or mask byte as RULE_READ sends it (R180). -/
def sourceClassByte (source : BitVec 3) (cls : BitVec 4) : Byte := (0 : BitVec 1) ++ source ++ cls

/-- The six bytes of RULE_READ (R38, R182); an interval or countdown of 256 is sent as 0. -/
def ruleImage (x : RoutingRule) : List Byte :=
  [if x.enable then 1 else 0, sourceClassByte x.patternSource x.patternClass, sourceClassByte x.maskSource x.maskClass,
   x.full.toNibble ++ x.sampled.toNibble, BitVec.ofNat 8 x.interval, BitVec.ofNat 8 x.countdown]

/-- The 13 bytes of STATUS (R153). -/
def statusReply (r : Reader) (s : State) : List Byte :=
  let c := s.readers.get r
  [BitVec.ofNat 8 (readerStateNumber c.state), BitVec.ofNat 8 c.holdList.length,
   BitVec.ofNat 8 (min (availableCount r s) 255)] ++ bigEndian 2 c.missed.toNat ++
    [tokenByte s, busyByte r s, BitVec.ofNat 8 (fill s), timebaseByte s, s.numbering.epoch] ++
    bigEndian 3 s.numbering.nextNumber.toNat

/-- The 11 bytes of TIME (R113). -/
def timeReply (s : State) : List Byte :=
  bigEndian 6 s.timebase.count.toNat ++ [timebaseByte s, s.numbering.epoch] ++ bigEndian 3 s.numbering.nextNumber.toNat

/-- The counter of an index 0–15 (R175). -/
def counterValue (c : Counters) : Nat → BitVec 40
  | 0 => c.triggersAccepted
  | 1 => c.refusedFull
  | 2 => c.refusedEpoch
  | 3 => c.badFrames
  | 4 => c.stretches
  | 5 => c.epochChanges
  | 6 => c.referenceLosses
  | 7 => c.busyTicks
  | 8 => c.forcedReleases.a
  | 9 => c.forcedReleases.b
  | 10 => c.forcedReleases.c
  | 11 => c.forcedReleases.d
  | 12 => c.takes.a
  | 13 => c.takes.b
  | 14 => c.takes.c
  | _ => c.takes.d

end Sys2Proof.Machine
end

