-- ==== Sys2Proof/Machine/Ops.lean ====
section
/-! DEFINITION. The shared operations of the blocks: causes, the busy unit, the numbering and routing units, entry, takes and releases,
the retirement cascade and its completion, hold supervision, the trigger port's outcomes, the timebase, and the effect point of a reader command.
No block takes an exception: a cause, a flag or a line is part of the event's effect on the state. -/

namespace Sys2Proof.Machine

/-! ### Outcomes and the reset line -/

/-- An event that the hub takes only while RST_N is high: while it is low every block stands at its reset values
(R79, R100, R104, R156). -/
def whileRunning (f : State → State) (s : State) : State := if s.rstLow then s else f s

/-! ### Causes (R170, R171) -/

/-- A cause set for the readers of a set; for a reader that has it already nothing changes. -/
def raiseFor (who : ReaderSet) (c : Cause) (s : State) : State :=
  s.withReaders (s.readers.mapWith fun r x => if who.get r then { x with causes := x.causes ||| causeBit c } else x)

/-- A cause set for one reader. -/
def raise (r : Reader) (c : Cause) (s : State) : State :=
  s.modifyReader r fun x => { x with causes := x.causes ||| causeBit c }

/-! ### The busy unit (08) -/

/-- The FILL hysteresis state at a re-evaluation (R133). -/
def fillHysteresis (s : State) : Bool :=
  if s.settings.busyHigh ≤ fill s then true else if fill s ≤ s.settings.busyLow then false else s.busy.fillActive

/-- The minimum-hold timer at an assertion of BUSY (R136). -/
def loadMinimumHold (n : Nat) : MinimumHold := if n = 0 then .elapsed else .running n

/-- The output set from the sources (R136): asserted with a fresh minimum hold, deasserted once the hold has elapsed, or left. -/
def driveBusy (s : State) : State :=
  if anySource s then
    if s.busy.output then s
    else s.withBusy { s.busy with output := true, minimumHold := loadMinimumHold s.settings.busyMinimum }
  else if s.busy.output && s.busy.minimumHold == .elapsed then
    s.withBusy { s.busy with output := false, minimumHold := .idle }
  else s

/-- A re-evaluation: the FILL hysteresis state first, then the output (R132). -/
def reevaluateBusy (s : State) : State :=
  driveBusy (s.withBusy { s.busy with fillActive := fillHysteresis s })

/-- Step 1 of a coarse pulse at the busy unit: BUSY_TICKS counts while BUSY is asserted (R137, R140). -/
def countBusyTick (s : State) : State :=
  if s.busy.output then s.withCounters { s.counters with busyTicks := s.counters.busyTicks + 1 } else s

/-- A coarse pulse at the busy unit (R137).
A pulse that brings the timer to 0 is left, whole, to MINIMUM_HOLD_EXPIRY (log entry 4). -/
def busyPulse (s : State) : State :=
  match s.busy.minimumHold with
  | .running v =>
    if v ≤ 1 then s.withBusy { s.busy with minimumHold := .pulseDue }
    else countBusyTick (s.withBusy { s.busy with minimumHold := .running (v - 1) })
  | .idle | .pulseDue | .elapsed => countBusyTick s

/-- The pulse that brings the minimum-hold timer to 0, as one event: BUSY_TICKS, then ELAPSED, then BUSY deasserted if every
source is inactive (R136, R137). -/
def elapseMinimumHold (s : State) : State :=
  let t := countBusyTick s
  if anySource t then t.withBusy { t.busy with minimumHold := .elapsed }
  else t.withBusy { t.busy with output := false, minimumHold := .idle }

/-- MINIMUM_HOLD_EXPIRY, where its pulse waits at the timer (log entry 4). -/
def takeMinimumHoldExpiry (s : State) : State :=
  if s.busy.minimumHold = .pulseDue then elapseMinimumHold s else s

/-! ### The numbering unit (07) -/

/-- Items 1 to 4 of applying an epoch reset (R122); the event that applies it then re-evaluates the busy unit. -/
def applyEpochReset (s : State) : State :=
  let t := raiseFor (attachedSet s) .epoch s
  (t.withNumbering { t.numbering with
      epoch := t.numbering.epoch + 1, nextNumber := 0, epochPending := false, rollMark := false }).withCounters
    { t.counters with epochChanges := t.counters.epochChanges + 1 }

/-- An epoch reset request (R121): merged, applied at once to an empty table, or made pending. -/
def requestEpochReset (s : State) : State :=
  if s.numbering.epochPending then s
  else if s.table.isEmpty then reevaluateBusy (applyEpochReset s)
  else reevaluateBusy (s.withNumbering { s.numbering with epochPending := true })

/-! ### The routing unit (02) -/

/-- Whether a rule matches a source and class (R29). -/
def ruleMatches (x : RoutingRule) (source : BitVec 3) (cls : BitVec 4) : Bool :=
  x.enable && ((source ^^^ x.patternSource) &&& x.maskSource) == 0 && ((cls ^^^ x.patternClass) &&& x.maskClass) == 0

/-- The rule indices in the order in which they are tried (R30). -/
def ruleIndices : List (Fin 8) := [0, 1, 2, 3, 4, 5, 6, 7]

/-- The matching rule of a trigger: the first that matches (R30). -/
def matchingRule (t : RuleTable) (source : BitVec 3) (cls : BitVec 4) : Option (Fin 8) :=
  ruleIndices.find? fun i => ruleMatches (t.get i) source cls

/-- What routing decides for a record (R32), with the rules after it (R31). -/
structure Routing where
  rule    : Option (Fin 8)
  routed  : ReaderSet
  sampled : Bool
  rules   : RuleTable
  deriving DecidableEq, Repr

/-- The sample of a rule is due when its countdown falls to 0 (R31). -/
def sampleDue (x : RoutingRule) : Bool := x.countdown ≤ 1

/-- The rule after it has matched: its countdown lowered, or reloaded when the sample was due (R31). -/
def advanceCountdown (x : RoutingRule) : RoutingRule :=
  { x with countdown := if sampleDue x then x.interval else x.countdown - 1 }

/-- Routing of an entering record (R32). -/
def route (s : State) (source : BitVec 3) (cls : BitVec 4) : Routing :=
  match matchingRule s.rules source cls with
  | none => { rule := none, routed := s.settings.defaultSet, sampled := false, rules := s.rules }
  | some i =>
    let x := s.rules.get i
    { rule := some i, routed := if sampleDue x then x.full.union x.sampled else x.full, sampled := sampleDue x,
      rules := s.rules.set i (advanceCountdown x) }

/-- A count that saturates at its greatest value (R34, R95). -/
def saturatingSucc {w : Nat} (x : BitVec w) : BitVec w := if x = BitVec.allOnes w then x else x + 1

/-- The missed counts of the readers of a set raised by one (R34). -/
def raiseMissed (who : ReaderSet) (s : State) : State :=
  s.withReaders (s.readers.mapWith fun r x => if who.get r then { x with missed := saturatingSucc x.missed } else x)

/-! ### Entry (R12) -/

/-- Whether the arriving frame starts a run (R127). -/
def startsRun (s : State) : Bool := s.trigger.frame.cls.toNat == s.settings.runClass

/-- Whether the next entry rolls the epoch over (R120). -/
def rollsOver (s : State) : Bool := s.numbering.nextNumber == 0xFFFFFF#24

/-- The run number after the entry's own increment (R127). -/
def runNumberAtEntry (s : State) : BitVec 16 :=
  if startsRun s then s.numbering.runNumber + 1 else s.numbering.runNumber

/-- The routing of the frame in the port (R32). -/
def routingOfFrame (s : State) : Routing := route s s.trigger.frame.source s.trigger.frame.cls

/-- The required set: the routed set narrowed to the ATTACHED readers (R33). -/
def requiredOfFrame (s : State) : ReaderSet := (routingOfFrame s).routed.inter (attachedSet s)

/-- The record that the frame in the port makes (R4 to R10, R12). -/
def newRecord (s : State) : EventRecord :=
  let f := s.trigger.frame
  { identity := { epoch := s.numbering.epoch, number := s.numbering.nextNumber }, runNumber := runNumberAtEntry s,
    timestamp := s.trigger.latchedCount, quality := s.trigger.latchedQuality, source := f.source, cls := f.cls,
    tag := frameTag f, gap := s.trigger.gap, rule := (routingOfFrame s).rule, required := requiredOfFrame s,
    taken := ReaderSet.none, released := ReaderSet.none, sampled := (routingOfFrame s).sampled,
    runStart := startsRun s, roll := s.numbering.rollMark, forced := false }

/-- The numbering unit after an entry (R119, R120). -/
def numberingAfterEntry (s : State) : Numbering :=
  { nextNumber := s.numbering.nextNumber + 1,
    epoch := if rollsOver s then s.numbering.epoch + 1 else s.numbering.epoch,
    runNumber := runNumberAtEntry s, epochPending := s.numbering.epochPending, rollMark := rollsOver s }

/-- The table after an entry: a record with an empty required set that would be the head retires at once (R13). -/
def tableAfterEntry (s : State) : List EventRecord :=
  if s.table.isEmpty && requiredOfFrame s == ReaderSet.none then [] else s.table ++ [newRecord s]

/-- The causes of an entry (item 6 of R12). -/
def raiseEntryCauses (required : ReaderSet) (runStart rolled : Bool) (s : State) : State :=
  let t := raiseFor required .available s
  let u := if runStart then raiseFor (attachedSet t) .runStart t else t
  if rolled then raiseFor (attachedSet u) .epoch u else u

/-- The counters of an entry: TRIGGERS_ACCEPTED, and EPOCH_CHANGES at a roll-over (R12, R120). -/
def countEntry (rolled : Bool) (c : Counters) : Counters :=
  { c with triggersAccepted := c.triggersAccepted + 1, epochChanges := if rolled then c.epochChanges + 1 else c.epochChanges }

/-- The entry of the frame in the port, as one event (R12). -/
def enterRecord (s : State) : State :=
  let routed := (routingOfFrame s).routed
  let t := raiseMissed (routed.inter (lapsedSet s)) s
  let t := raiseEntryCauses (requiredOfFrame s) (startsRun s) (rollsOver s) t
  let t := t.withRules (routingOfFrame s).rules
  let t := t.withNumbering (numberingAfterEntry s)
  let t := t.withTrigger { s.trigger with gap := 0 }
  let t := t.withTable (tableAfterEntry s)
  let t := t.withCounters (countEntry (rollsOver s) s.counters)
  reevaluateBusy t

/-! ### Outcomes of a frame (05) -/

/-- The outcome of a byte that ends the hub's part in the frame: the port goes PASSIVE, the gathered fields are gone and no stretch runs. -/
def decideFrame (answer : Response) (s : State) : State :=
  s.withTrigger { s.trigger with
    state := .passive, frame := .empty, stretchTimer := .stopped, statusBytes := [], response := answer }

/-- A bad byte or frame: not acknowledged, BAD_FRAMES counts once (R83, R84, R85). -/
def badFrame (s : State) : State :=
  decideFrame .notAcknowledged (s.withCounters { s.counters with badFrames := s.counters.badFrames + 1 })

/-- The gap count raised by one refusal (R95). -/
def raiseGap (s : State) : State := s.withTrigger { s.trigger with gap := saturatingSucc s.trigger.gap }

/-- A trigger frame refused for a full table, at once or after its stretch (R88, R92). -/
def refuseFull (s : State) : State :=
  decideFrame .notAcknowledged
    (raiseGap (s.withCounters { s.counters with refusedFull := s.counters.refusedFull + 1 }))

/-- A trigger frame refused while an epoch reset is pending (R88). -/
def refuseEpoch (s : State) : State :=
  decideFrame .notAcknowledged
    (raiseGap (s.withCounters { s.counters with refusedEpoch := s.counters.refusedEpoch + 1 }))

/-- A trigger frame entered: its check byte is acknowledged and SCL is released (R88, R93). -/
def acceptFrame (s : State) : State := decideFrame .acknowledged (enterRecord s)

/-- The port enters HOLDING and holds SCL low (R91). -/
def holdFrame (s : State) : State :=
  (s.withTrigger { s.trigger with
      state := .holding, stretchTimer := .running s.settings.stretchLimit, response := .clockHeld }).withCounters
    { s.counters with stretches := s.counters.stretches + 1 }

/-- The frame waiting in HOLDING asks again for entry (R93); at a full table the table refuses it and it waits on (R11). -/
def retryHeldFrame (s : State) : State :=
  if s.trigger.state = .holding ∧ fill s < Config.tableSlots then acceptFrame s else s

/-! ### Taking, releasing and retirement (01) -/

/-- The first element that satisfies `p` changed by `f`. -/
def modifyFirst {α : Type} (p : α → Bool) (f : α → α) : List α → List α
  | [] => []
  | x :: l => if p x then f x :: l else x :: modifyFirst p f l

/-- The record that a hold-list entry of the reader names (R45). -/
def heldAs (r : Reader) (id : Identity) (x : EventRecord) : Bool := x.identity == id && x.taken.get r

/-- The reader joins the taken set (R16). -/
def takeRecord (r : Reader) (x : EventRecord) : EventRecord := { x with taken := x.taken.set r true }

/-- The reader is done with the record: out of the taken set, into the released set (R17, R19). -/
def releaseRecord (r : Reader) (x : EventRecord) : EventRecord :=
  { x with taken := x.taken.set r false, released := x.released.set r true }

/-- A forced release: a release that sets FORCED (R18). -/
def forceReleaseRecord (r : Reader) (x : EventRecord) : EventRecord := { releaseRecord r x with forced := true }

/-- The table after a release of one held record (R17). -/
def releaseIn (r : Reader) (id : Identity) (t : List EventRecord) : List EventRecord :=
  modifyFirst (heldAs r id) (releaseRecord r) t

/-- The table after a forced release of one held record (R18). -/
def forceReleaseIn (r : Reader) (id : Identity) (t : List EventRecord) : List EventRecord :=
  modifyFirst (heldAs r id) (forceReleaseRecord r) t

/-- The table after a mass release of the reader (R19). -/
def massReleaseIn (r : Reader) (t : List EventRecord) : List EventRecord :=
  t.map fun x => if x.required.get r then releaseRecord r x else x

/-- A record is complete when its released set equals its required set (R21). -/
def complete (x : EventRecord) : Bool := x.released == x.required

/-- What completes an event whose cascade retired a record (R22): a pending reset at an empty table, the held frame, the busy unit. -/
def finishCascade (s : State) : State :=
  let t := if s.numbering.epochPending && s.table.isEmpty then applyEpochReset s else s
  reevaluateBusy (retryHeldFrame t)

/-- The cascade: complete records leave at the head, and the event is completed if any has left (R21, R22). -/
def cascade (s : State) : State :=
  let rest := s.table.dropWhile complete
  if rest.length = s.table.length then s else finishCascade (s.withTable rest)

/-! ### The hold list and the hold timer (R51, R67, R69) -/

/-- The hold timer at a load (R67). -/
def loadHoldTimer (limit : Nat) : HoldTimer := if limit = 0 then .untimed else .running limit

/-- The hold timer when the first entry has left: loaded for the new first entry, or stopped (R51). -/
def timerForNext (limit : Nat) : List Identity → HoldTimer
  | [] => .stopped
  | _ :: _ => loadHoldTimer limit

/-- A hold-clock pulse at a hold timer (R68): it takes one count from a RUNNING timer. The pulse that finds 1 is the expiry; it waits
for HOLD_EXPIRY (log entry 4). -/
def holdPulse (t : HoldTimer) : HoldTimer :=
  match t with
  | .running v => if v ≤ 1 then .pulseDue else .running (v - 1)
  | .stopped | .untimed | .pulseDue => t

/-- A load that a release makes (R67). If a pulse still waits at the timer, the load is taken first and the pulse at once takes one
count from the new value (R68). -/
def reloadHoldTimer (old new : HoldTimer) : HoldTimer := if old = .pulseDue then holdPulse new else new

/-- An entry leaves the hold list; the timer is touched when it was the first (R51). -/
def removeEntry (id : Identity) (c : ReaderContext) : ReaderContext :=
  { c with
    holdList := c.holdList.erase id
    holdTimer :=
      if c.holdList.head? = some id then
        reloadHoldTimer c.holdTimer (timerForNext c.settings.holdLimit (c.holdList.erase id))
      else c.holdTimer }

/-- An identity joins the hold list at its tail; the timer loads when it is the first entry (R46, R67). -/
def addEntry (id : Identity) (c : ReaderContext) : ReaderContext :=
  { c with
    holdList := c.holdList ++ [id]
    holdTimer := if c.holdList.isEmpty then loadHoldTimer c.settings.holdLimit else c.holdTimer }

/-- A release by the reader of an entry of its hold list, with the retirements it makes possible (R17, R49). -/
def releaseEntry (r : Reader) (id : Identity) (s : State) : State :=
  cascade ((s.withTable (releaseIn r id s.table)).modifyReader r (removeEntry id))

/-- The reader leaves ATTACHED or stays away: its state, with an empty hold list and a stopped timer (R54, R56, R58). -/
def withdraw (x : ReaderState) (c : ReaderContext) : ReaderContext :=
  { c with state := x, holdList := [], holdTimer := .stopped }

/-- Mass release of a reader that takes a new state, before the retirements (R19, R54). -/
def massRelease (r : Reader) (x : ReaderState) (s : State) : State :=
  (s.withTable (massReleaseIn r s.table)).modifyReader r (withdraw x)

/-! ### Hold expiry (04) -/

/-- FORCED_RELEASES of the reader raised (R71, R72). -/
def countForced (r : Reader) (n : Nat) (s : State) : State :=
  s.withCounters { s.counters with
    forcedReleases := s.counters.forcedReleases.set r (s.counters.forcedReleases.get r + BitVec.ofNat 40 n) }

/-- An expiry under FORCE, in the order of R71. -/
def expireForce (r : Reader) (s : State) : State :=
  match (s.readers.get r).holdList with
  | [] => s.modifyReader r fun c => { c with holdTimer := .stopped }
  | id :: rest =>
    let t := (s.withTable (forceReleaseIn r id s.table)).modifyReader r fun c => { c with holdList := rest }
    let t := raise r .forced (countForced r 1 t)
    (cascade t).modifyReader r fun c => { c with holdTimer := timerForNext c.settings.holdLimit rest }

/-- An expiry under LAPSE, in the order of R72. -/
def expireLapse (r : Reader) (s : State) : State :=
  let held := (s.readers.get r).holdList
  let t := s.withTable (held.foldl (fun t id => forceReleaseIn r id t) s.table)
  let t := massRelease r .lapsed (countForced r held.length t)
  reevaluateBusy (cascade (raise r .lapsed t))

/-- HOLD_EXPIRY: the pulse that waits at the timer brings it to 0, and the expiry acts under the policy in force (R68, R70). -/
def takeHoldExpiry (r : Reader) (s : State) : State :=
  if (s.readers.get r).holdTimer = .pulseDue then
    match (s.readers.get r).settings.holdPolicy with
    | .force => expireForce r s
    | .lapse => expireLapse r s
  else s

/-- STRETCH_EXPIRY: the pulse that waits brings the stretch timer to 0, and the held frame is refused as full (R92). -/
def takeStretchExpiry (s : State) : State :=
  if s.trigger.state = .holding ∧ s.trigger.stretchTimer = .pulseDue then refuseFull s else s

/-! ### The timebase (06) -/

/-- The completion of a settle, as one event (R105). -/
def completeSettle (s : State) : State :=
  reevaluateBusy (raiseFor ReaderSet.all .settled
    (s.withTimebase { s.timebase with state := .settled, settleCounter := 0, uncounted := 0 }))

/-- `n` edges of the selected reference reach the settle counter; the edge that brings it to 0 completes the settle (R105). -/
def settleEdges (n : Nat) (s : State) : State :=
  if s.timebase.state = .settling then
    if s.timebase.settleCounter ≤ n then completeSettle s
    else s.withTimebase { s.timebase with settleCounter := s.timebase.settleCounter - n }
  else s

/-- A settle starts on a reference, and the divider restarts on it (R105, R107, R108). -/
def startSettle (x : ReferenceSelection) (s : State) : State :=
  s.withTimebase { s.timebase with
    selection := x, state := .settling, settleCounter := s.settings.settleLength * Config.settleUnit, divider := 0, uncounted := 0 }

/-- The pulses of earlier ticks that still wait at their timers, taken in one order: holds A to D, stretch, minimum hold.
A sender that wants another order commands the expiries itself (log entry 4). -/
def takeDueEvents (s : State) : State :=
  takeMinimumHoldExpiry (takeStretchExpiry
    (takeHoldExpiry .d (takeHoldExpiry .c (takeHoldExpiry .b (takeHoldExpiry .a s)))))

/-- The reference edges of one tick: 2 to the power TICK_PRESCALE (R101). -/
def edgesPerTick (s : State) : Nat := 2 ^ s.settings.tickPrescale

/-- Edges have filled the divider, and the tick is not yet taken (log entry 5). -/
def tickDue (s : State) : Bool := edgesPerTick s ≤ s.timebase.divider

/-- The edges that remain until the next tick. -/
def edgesToTick (s : State) : Nat := edgesPerTick s - s.timebase.divider

/-- A REFCLK edge at the reference monitor (R104). -/
def monitorEdge (t : Timebase) : Timebase := { t with monitor := .present, monitorCount := 0 }

/-- `n` edges of the selected reference at the monitor: with EXTERNAL selected they are REFCLK's own (R104). -/
def monitorEdges (n : Nat) (t : Timebase) : Timebase := if t.selection = .external ∧ 0 < n then monitorEdge t else t

/-- The count rises by one at a tick and the divider starts again (R100, R101). -/
def advanceCount (t : Timebase) : Timebase := { t with count := t.count + 1, divider := 0 }

/-- The low bits of the count are zero (R102). -/
def lowBitsZero (bits : Nat) (count : BitVec 48) : Bool := count.toNat % 2 ^ bits == 0

/-- A coarse pulse at the stretch timer (R92). -/
def stretchPulse (p : TriggerPort) : TriggerPort :=
  match p.state, p.stretchTimer with
  | .holding, .running v => { p with stretchTimer := if v ≤ 1 then .pulseDue else .running (v - 1) }
  | _, _ => p

/-- A coarse pulse (R102): the stretch timer and the busy unit. -/
def coarsePulse (s : State) : State :=
  if lowBitsZero 8 s.timebase.count then busyPulse (s.withTrigger (stretchPulse s.trigger)) else s

/-- The hold-clock pulses of a tick (R66). -/
def holdPulses (s : State) : State :=
  s.withReaders (s.readers.mapWith fun _ c =>
    if lowBitsZero (4 + 2 * c.settings.holdClock) s.timebase.count then { c with holdTimer := holdPulse c.holdTimer } else c)

/-- A tick (R100 to R102): the edges that remain until it reach the monitor and the settle counter, the count rises by one, and the
pulses that fall on it reach their timers.
A settle that ends on an edge before the tick's own is complete before the pulses (R105). One that ends on the edge of the tick may be
completed before the coarse pulse or after it (R141): TICK takes the pulse first, and SETTLE_COMPLETE before TICK the completion.
The spec fixes no order between a coarse pulse and hold-clock pulses on one tick. DESIGN CHOICE (log entry 14): the coarse pulse first,
at the stretch timer before the busy unit, then the hold-clock pulses; an expiry comes after the whole tick, with its own command. -/
def countTick (s : State) : State :=
  let n := edgesToTick s
  let t := settleEdges (n - 1) (s.withTimebase (monitorEdges n s.timebase))
  settleEdges (min n 1) (holdPulses (coarsePulse (t.withTimebase (advanceCount t.timebase))))

/-- A tick, after whatever earlier ticks have left at the timers. -/
def takeTick (s : State) : State := countTick (takeDueEvents s)

/-- A tick that edges have made due is taken before the divider moves on or restarts. -/
def takeDueTick (s : State) : State := if tickDue s then takeTick s else s

/-- A rising edge of REFCLK (R104); with EXTERNAL selected it advances the divider and lowers the settle counter, and the edge that
brings the counter to 0 completes the settle (R101, R105). -/
def countRefclkEdge (s : State) : State :=
  if s.timebase.selection = .external then
    let t := takeDueTick s
    settleEdges 1 (t.withTimebase { monitorEdge t.timebase with divider := t.timebase.divider + 1 })
  else s.withTimebase (monitorEdge s.timebase)

/-- The edges that must still come before the settle can be complete: those that the counter holds, less the cycles that may have passed
uncounted. None where the edge that completed it may be one that TICK has counted already (log entry 5). -/
def edgesToSettle (t : Timebase) : Nat := t.settleCounter - t.uncounted

/-- The last edge of the settle in progress can come before the next tick or with it. -/
def settleEndsBeforeTick (s : State) : Bool :=
  s.timebase.state == .settling && edgesToSettle s.timebase ≤ edgesToTick s

/-- The edges that must still come have come, and the settle is complete (R105). They advance the divider, and no edge that a command has
counted advances it again (R101). -/
def finishSettle (s : State) : State :=
  let n := edgesToSettle s.timebase
  completeSettle (s.withTimebase { monitorEdges n s.timebase with divider := s.timebase.divider + n })

/-- SETTLE_COMPLETE: the edge that brings the settle counter to 0, where no tick has to come before it. The sender may count among the
edges of the settle the cycles that no command has counted (log entry 5). -/
def takeSettleComplete (s : State) : State :=
  let t := takeDueTick s
  if settleEndsBeforeTick t then finishSettle t else s

/-- The hub's own switch to the internal reference (R110). -/
def fallback (s : State) : State :=
  let t := startSettle .internal s
  let t := raiseFor ReaderSet.all .refLost t
  reevaluateBusy (t.withCounters { t.counters with referenceLosses := t.counters.referenceLosses + 1 })

/-- The monitor has counted 64 cycles without an edge (R104). -/
def monitorExpires (s : State) : State :=
  s.withTimebase { s.timebase with monitor := .absent, monitorCount := Config.monitorLimit }

/-- 64 internal cycles without a REFCLK edge: the monitor becomes ABSENT, with the fallback if EXTERNAL is selected (R104, R110). -/
def loseRefclk (s : State) : State :=
  if s.timebase.monitor = .present ∧ s.timebase.selection = .external then
    fallback (monitorExpires (takeDueTick s))
  else monitorExpires s

/-! ### Settings (10) -/

/-- A pulse that waits at the hold timer, judged by a new HOLD_CLOCK: it may not fall at that tick, and the timer counts on (R75). -/
def rejudgePulse (count : BitVec 48) (c : ReaderContext) : ReaderContext :=
  if c.holdTimer = .pulseDue ∧ lowBitsZero (4 + 2 * c.settings.holdClock) count = false then { c with holdTimer := .running 1 }
  else c

/-- What the owner of a setting does at once (R75, R166). -/
def applySetting (x : Setting) (s : State) : State :=
  match x with
  | .shared .busyHigh | .shared .busyLow | .shared .forceBusy | .shared .settleBusy => reevaluateBusy s
  | .ofReader r .holdClock => s.modifyReader r (rejudgePulse s.timebase.count)
  | _ => s

/-- Cycles of the internal reference that may have passed uncounted when a write of TICK_PRESCALE cuts a tick short: fewer than the tick
still lacks, and fewer than the settle in progress has left (R101, R105). -/
def uncountedAtRestart (s : State) : Nat :=
  if s.timebase.state = .settling ∧ s.timebase.selection = .internal then
    min (s.timebase.uncounted + (edgesToTick s - 1)) (s.timebase.settleCounter - 1)
  else s.timebase.uncounted

/-- A write of TICK_PRESCALE restarts the divider, a tick that edges have made due taken first; the settle counter stays (R101, R105). -/
def restartDivider (s : State) : State :=
  let t := takeDueTick s
  t.withTimebase { t.timebase with divider := 0, uncounted := uncountedAtRestart t }

/-- An accepted SET: the value stored and handed to its owner (R162). -/
def writeSetting (x : Setting) (v : Value16) (s : State) : State :=
  let t := if x = .shared .tickPrescale then restartDivider s else s
  applySetting x (storeSetting x v t)

/-! ### The effect point of a reader command (R147, R150) -/

/-- What a block gives back at an effect point: the status, the reply of a performed command, and the state. -/
structure Answer where
  status : StatusCode
  reply  : List Byte
  after  : State
  deriving DecidableEq, Repr

/-- A refused command changes nothing (R151). -/
def refuse (c : StatusCode) (s : State) : Answer := { status := c, reply := [], after := s }

/-- A performed command. -/
def perform (reply : List Byte) (s : State) : Answer := { status := .ok, reply := reply, after := s }

/-- The reply bytes: the command's own when it is answered OK, else zeros of its fixed length (R150). -/
def replyBytes (length : Nat) (x : Answer) : List Byte :=
  if x.status = .ok then x.reply else List.replicate length 0

/-- A byte from the reader arrives at its port (R144): the command byte in COMMAND, an argument byte in ARGUMENTS, each time on to
TURNAROUND when the code has no further argument; in every other phase it is ignored. -/
def arrive (p : ReaderPort) (byte : Byte) : ReaderPort :=
  match p.phase with
  | .command =>
    { p with phase := if argumentCount byte = 0 then .turnaround else .arguments, command := some byte, args := [] }
  | .arguments =>
    { p with
      phase := if (p.args ++ [byte]).length = argumentCount (p.command.getD 0) then .turnaround else .arguments
      args := p.args ++ [byte] }
  | .idle | .turnaround | .status | .reply | .trailing => p

/-- The bytes of a command have arrived, and at the effect point the port latches status and reply (R144, R147). -/
def latchAnswer (r : Reader) (code : Byte) (args : List Byte) (length : Nat) (x : Answer) : State :=
  x.after.withPorts (x.after.ports.set r { (code :: args).foldl arrive (x.after.ports.get r) with
    status := some x.status, reply := replyBytes length x, sent := 0 })

/-- The end of one byte that the hub sends past the effect point (R144, R150). -/
def sendByte (p : ReaderPort) : ReaderPort :=
  match p.phase with
  | .turnaround => { p with phase := .status }
  | .status => { p with phase := if p.reply = [] then .trailing else .reply, sent := 0 }
  | .reply =>
    { p with phase := if p.sent + 1 < p.reply.length then .reply else .trailing, sent := p.sent + 1 }
  | .idle | .command | .arguments | .trailing => p

/-- The time of one byte, in which no command comes: each port whose transaction is past its effect point sends one byte
(R143, R144, R150; log entry 10). -/
def byteTime (s : State) : State := s.withPorts (s.ports.mapWith fun _ p => sendByte p)

/-- The port takes a command byte: RST_N is high and its transaction is open and still in COMMAND (R143, R144, R156). -/
def listening (r : Reader) (s : State) : Bool := !s.rstLow && (s.ports.get r).phase == .command

/-- A reader command from its command byte to its effect point (R147).
Bytes outside a transaction's COMMAND phase are ignored (R143, R144). -/
def command (r : Reader) (code : Byte) (args : List Byte) (length : Nat) (act : State → Answer) (s : State) : State :=
  if listening r s then latchAnswer r code args length (act s) else s

/-- Step 2 of the order of checks: the caller holds the control token (R151). -/
def holdsToken (r : Reader) (s : State) : Bool := s.token == some r

/-- The answer of a SET (R162): token, index, value, then the write. -/
def answerSet (r : Reader) (id : Byte) (v : Value16) (s : State) : Answer :=
  if !holdsToken r s && id != settingId (.ofReader r .attnMask) then refuse .notHolder s
  else match settingOfId id with
    | none => refuse .badIndex s
    | some x => if settingAccepts x v s then perform [] (writeSetting x v s) else refuse .badValue s

/-- A SET on the reader's port: command code 0x32, id, value (R162). -/
def setCommand (r : Reader) (id : Byte) (v : Value16) (s : State) : State :=
  command r 0x32 (id :: bigEndian 2 v.toNat) 0 (answerSet r id v) s

end Sys2Proof.Machine
end

