-- ==== Sys2Proof/Machine/HubCommands.lean ====
section
/-! DEFINITION. Family: the control token, the settings, the routing rules, and the commands that act on the hub as a whole
(02, 06, 07, 10, 11 and the hub clear of 01). -/

namespace Sys2Proof.Machine

/-! ### The control token (R158, R159) -/

/-- CLAIM at its effect point (R158). -/
def answerClaim (r : Reader) (s : State) : Answer :=
  match s.token with
  | none => perform [] (s.withToken (some r))
  | some h =>
    if h = r then perform [] s
    else if isAttached h s then refuse .tokenTaken s
    else perform [] ((raise h .tokenLost s).withToken (some r))

/-- YIELD at its effect point (R159). -/
def answerYield (r : Reader) (s : State) : Answer :=
  if holdsToken r s then perform [] (s.withToken none) else refuse .notHolder s

/-! ### Settings (R162, R167) -/

/-- GET at its effect point (R167). -/
def answerGet (id : Byte) (s : State) : Answer :=
  match settingOfId id with
  | none => refuse .badIndex s
  | some x => perform (bigEndian 2 (settingValue x s).toNat) s

/-! ### Routing rules (R36, R38) -/

/-- The enable, pattern and mask bytes of RULE_WRITE are in range: 0 or 1, and an unused bit 7 of 0 (R36). -/
def ruleBytesValid (enable pattern mask : Byte) : Bool :=
  enable.toNat ≤ 1 && !pattern.getLsbD 7 && !mask.getLsbD 7

/-- RULE_WRITE at its effect point (R36). -/
def answerRuleWrite (r : Reader) (index enable pattern mask sets interval : Byte) (s : State) : Answer :=
  if !holdsToken r s then refuse .notHolder s
  else match ruleIndex index with
    | none => refuse .badIndex s
    | some i =>
      if ruleBytesValid enable pattern mask then
        perform [] (s.withRules (s.rules.set i (ruleOf enable pattern mask sets interval)))
      else refuse .badValue s

/-- RULE_READ at its effect point (R38). -/
def answerRuleRead (index : Byte) (s : State) : Answer :=
  match ruleIndex index with
  | none => refuse .badIndex s
  | some i => perform (ruleImage (s.rules.get i)) s

/-! ### EPOCH, CLEAR, REFERENCE -/

/-- EPOCH at its effect point (R124). -/
def answerEpoch (r : Reader) (s : State) : Answer :=
  if !holdsToken r s then refuse .notHolder s
  else if s.settings.epochSource = .bus then refuse .badState s
  else if s.table.isEmpty then perform [] (reevaluateBusy (applyEpochReset s))
  else refuse .notDrained s

/-- Steps 1 to 3 of a hub clear: the table, the hold lists and timers, the gap count (R24). -/
def emptyHub (s : State) : State :=
  ((s.withTable []).withReaders
    (s.readers.mapWith fun _ c => { c with holdList := [], holdTimer := .stopped })).withTrigger
    { s.trigger with gap := 0 }

/-- A hub clear, in the order of R24. -/
def hubClear (s : State) : State :=
  let t := emptyHub s
  let t := if t.numbering.epochPending then applyEpochReset t else t
  let t := raiseFor ((attachedSet t).union (lapsedSet t)) .cleared t
  retryHeldFrame (reevaluateBusy t)

/-- CLEAR at its effect point (R24). -/
def answerClear (r : Reader) (s : State) : Answer :=
  if holdsToken r s then perform [] (hubClear s) else refuse .notHolder s

/-- The reference an argument byte names (R108). -/
def referenceOf (value : Byte) : Option ReferenceSelection :=
  if value = 0 then some .internal else if value = 1 then some .external else none

/-- A commanded switch of reference (step 5 of R108). -/
def switchReference (x : ReferenceSelection) (s : State) : State := reevaluateBusy (startSettle x (takeDueTick s))

/-- REFERENCE at its effect point, in the order of R108. -/
def answerReference (r : Reader) (value : Byte) (s : State) : Answer :=
  if !holdsToken r s then refuse .notHolder s
  else match referenceOf value with
    | none => refuse .badValue s
    | some x =>
      if x = s.timebase.selection then perform [] s
      else if x = .external ∧ s.timebase.monitor = .absent then refuse .noReference s
      else perform [] (switchReference x s)

/-! ### Counters (R176, R177) -/

/-- The reply length of COUNTER: 5 in the full form, 4 for every other form byte (R146). -/
def counterReplyLength (form : Byte) : Nat := if form = 1 then 5 else 4

/-- COUNTER at its effect point (R176): the low 32 bits in the short form, the whole value in the full form. -/
def answerCounter (r : Reader) (index form : Byte) (s : State) : Answer :=
  if !s.settings.countersOpen && !holdsToken r s then refuse .notHolder s
  else if 15 < index.toNat then refuse .badIndex s
  else if 1 < form.toNat then refuse .badValue s
  else perform (bigEndian (counterReplyLength form) (counterValue s.counters index.toNat).toNat) s

/-- CLEAR_COUNTERS at its effect point (R177). -/
def answerClearCounters (r : Reader) (s : State) : Answer :=
  if holdsToken r s then perform [] (s.withCounters Counters.zero) else refuse .notHolder s

/-! ### The commands -/

/-- CLAIM (R158). -/
def execClaim (r : Reader) (s : State) : Host.Outcome State Fault Refusal :=
  .next (command r 0x30 [] 0 (answerClaim r) s)

/-- YIELD (R159). -/
def execYield (r : Reader) (s : State) : Host.Outcome State Fault Refusal :=
  .next (command r 0x31 [] 0 (answerYield r) s)

/-- SET (R162), of any id: the port takes one command for all of them. -/
def execSet (r : Reader) (id : Byte) (value : Value16) (s : State) : Host.Outcome State Fault Refusal :=
  .next (setCommand r id value s)

/-- SET of BUSY_HIGH (R134, R165). -/
def execSetBusyHigh (r : Reader) (value : Value16) (s : State) : Host.Outcome State Fault Refusal :=
  .next (setCommand r (settingId (.shared .busyHigh)) value s)

/-- SET of BUSY_LOW (R134, R165). -/
def execSetBusyLow (r : Reader) (value : Value16) (s : State) : Host.Outcome State Fault Refusal :=
  .next (setCommand r (settingId (.shared .busyLow)) value s)

/-- SET of FORCE_BUSY (R138). -/
def execSetForceBusy (r : Reader) (value : Value16) (s : State) : Host.Outcome State Fault Refusal :=
  .next (setCommand r (settingId (.shared .forceBusy)) value s)

/-- SET of SETTLE_BUSY (R138). -/
def execSetSettleBusy (r : Reader) (value : Value16) (s : State) : Host.Outcome State Fault Refusal :=
  .next (setCommand r (settingId (.shared .settleBusy)) value s)

/-- SET of TICK_PRESCALE (R101). -/
def execSetTickPrescale (r : Reader) (value : Value16) (s : State) : Host.Outcome State Fault Refusal :=
  .next (setCommand r (settingId (.shared .tickPrescale)) value s)

/-- SET of RUN_NUMBER (R129). -/
def execSetRunNumber (r : Reader) (value : Value16) (s : State) : Host.Outcome State Fault Refusal :=
  .next (setCommand r (settingId (.shared .runNumber)) value s)

/-- SET of a reader's ATTN_MASK (R174). -/
def execSetAttnMask (r : Reader) (target : Reader) (value : Value16) (s : State) : Host.Outcome State Fault Refusal :=
  .next (setCommand r (settingId (.ofReader target .attnMask)) value s)

/-- GET (R167). -/
def execGet (r : Reader) (id : Byte) (s : State) : Host.Outcome State Fault Refusal :=
  .next (command r 0x33 [id] 2 (answerGet id) s)

/-- RULE_WRITE (R36). -/
def execRuleWrite (r : Reader) (index enable pattern mask sets interval : Byte) (s : State) :
    Host.Outcome State Fault Refusal :=
  .next (command r 0x34 [index, enable, pattern, mask, sets, interval] 0
    (answerRuleWrite r index enable pattern mask sets interval) s)

/-- RULE_READ (R38). -/
def execRuleRead (r : Reader) (index : Byte) (s : State) : Host.Outcome State Fault Refusal :=
  .next (command r 0x35 [index] 6 (answerRuleRead index) s)

/-- EPOCH (R124). -/
def execEpoch (r : Reader) (s : State) : Host.Outcome State Fault Refusal :=
  .next (command r 0x38 [] 0 (answerEpoch r) s)

/-- CLEAR (R24). -/
def execClear (r : Reader) (s : State) : Host.Outcome State Fault Refusal :=
  .next (command r 0x39 [] 0 (answerClear r) s)

/-- REFERENCE (R108). -/
def execReference (r : Reader) (value : Byte) (s : State) : Host.Outcome State Fault Refusal :=
  .next (command r 0x3A [value] 0 (answerReference r value) s)

/-- COUNTER (R176). -/
def execCounter (r : Reader) (index form : Byte) (s : State) : Host.Outcome State Fault Refusal :=
  .next (command r 0x40 [index, form] (counterReplyLength form) (answerCounter r index form) s)

/-- CLEAR_COUNTERS (R177). -/
def execClearCounters (r : Reader) (s : State) : Host.Outcome State Fault Refusal :=
  .next (command r 0x41 [] 0 (answerClearCounters r) s)

end Sys2Proof.Machine
end

