-- ==== Sys2Proof/Machine/ReaderCommands.lean ====
section
/-! DEFINITION. Family: the commands that act on a reader's own context (03, 11). -/

namespace Sys2Proof.Machine

/-- CAUSES at its effect point: the cause set returned and emptied (R172). -/
def answerCauses (r : Reader) (s : State) : Answer :=
  perform (bigEndian 2 (s.readers.get r).causes.toNat) (s.modifyReader r fun c => { c with causes := 0 })

/-- TAKE at its effect point (R46, R16). -/
def answerTake (r : Reader) (s : State) : Answer :=
  let c := s.readers.get r
  if c.state ≠ .attached then refuse .badState s
  else if c.settings.holdDepth ≤ c.holdList.length then refuse .holdFull s
  else match s.table.find? (availableTo r) with
    | none => refuse .empty s
    | some x =>
      let t := s.withTable (modifyFirst (availableTo r) (takeRecord r) s.table)
      let t := t.modifyReader r (addEntry x.identity)
      perform (recordImage x)
        (t.withCounters { t.counters with takes := t.counters.takes.set r (t.counters.takes.get r + 1) })

/-- RELEASE at its effect point (R49). -/
def answerRelease (r : Reader) (id : Identity) (s : State) : Answer :=
  let c := s.readers.get r
  if c.state ≠ .attached then refuse .badState s
  else if c.holdList.contains id then perform [] (releaseEntry r id s)
  else refuse .notHeld s

/-- RELEASE_OLDEST at its effect point (R50). -/
def answerReleaseOldest (r : Reader) (s : State) : Answer :=
  let c := s.readers.get r
  if c.state ≠ .attached then refuse .badState s
  else match c.holdList with
    | [] => refuse .notHeld s
    | id :: _ => perform [] (releaseEntry r id s)

/-- ATTACH at its effect point (R53). -/
def answerAttach (r : Reader) (s : State) : Answer :=
  if (s.readers.get r).state = .detached then
    perform [] (reevaluateBusy (s.modifyReader r fun c => { c with state := .attached }))
  else refuse .badState s

/-- DETACH at its effect point (R54). -/
def answerDetach (r : Reader) (s : State) : Answer :=
  if (s.readers.get r).state = .detached then refuse .badState s
  else perform [] (reevaluateBusy (cascade (massRelease r .detached s)))

/-- RESUME at its effect point (R55). -/
def answerResume (r : Reader) (s : State) : Answer :=
  if (s.readers.get r).state = .lapsed then
    perform [] (reevaluateBusy (s.modifyReader r fun c => { c with state := .attached, missed := 0 }))
  else refuse .badState s

/-- DECLARE_BUSY at its effect point (R59); writing the value already held changes nothing. -/
def answerDeclareBusy (r : Reader) (value : Byte) (s : State) : Answer :=
  if value.toNat ≤ 1 then
    let on := value == 1
    if (s.readers.get r).declaredBusy = on then perform [] s
    else perform [] (reevaluateBusy (s.modifyReader r fun c => { c with declaredBusy := on }))
  else refuse .badValue s

/-- A READER_RESET frees the token of its holder, with no TOKEN_LOST (R58, R160). -/
def freeTokenOf (r : Reader) (s : State) : State := if holdsToken r s then s.withToken none else s

/-- READER_RESET at its effect point, in the order of R58. -/
def answerReaderReset (r : Reader) (s : State) : Answer :=
  let t := cascade (massRelease r .detached s)
  let t := t.modifyReader r fun c => { c with causes := 0, declaredBusy := false, missed := 0 }
  perform [] (reevaluateBusy (freeTokenOf r t))

/-- CAUSES (R172). -/
def execCauses (r : Reader) (s : State) : Host.Outcome State Fault Refusal :=
  .next (command r 0x03 [] 2 (answerCauses r) s)

/-- TAKE (R46, R47). -/
def execTake (r : Reader) (s : State) : Host.Outcome State Fault Refusal :=
  .next (command r 0x10 [] 19 (answerTake r) s)

/-- RELEASE (R49): the epoch, then the event number (R182). -/
def execRelease (r : Reader) (epoch : BitVec 8) (number : BitVec 24) (s : State) : Host.Outcome State Fault Refusal :=
  .next (command r 0x11 (epoch :: bigEndian 3 number.toNat) 0 (answerRelease r { epoch := epoch, number := number }) s)

/-- RELEASE_OLDEST (R50). -/
def execReleaseOldest (r : Reader) (s : State) : Host.Outcome State Fault Refusal :=
  .next (command r 0x12 [] 0 (answerReleaseOldest r) s)

/-- HELD (R52). -/
def execHeld (r : Reader) (s : State) : Host.Outcome State Fault Refusal :=
  .next (command r 0x13 [] 17 (fun t => perform (heldBytes (t.readers.get r).holdList) t) s)

/-- ATTACH (R53). -/
def execAttach (r : Reader) (s : State) : Host.Outcome State Fault Refusal :=
  .next (command r 0x20 [] 0 (answerAttach r) s)

/-- DETACH (R54). -/
def execDetach (r : Reader) (s : State) : Host.Outcome State Fault Refusal :=
  .next (command r 0x21 [] 0 (answerDetach r) s)

/-- RESUME (R55). -/
def execResume (r : Reader) (s : State) : Host.Outcome State Fault Refusal :=
  .next (command r 0x22 [] 0 (answerResume r) s)

/-- DECLARE_BUSY (R59). -/
def execDeclareBusy (r : Reader) (value : Byte) (s : State) : Host.Outcome State Fault Refusal :=
  .next (command r 0x23 [value] 0 (answerDeclareBusy r value) s)

/-- READER_RESET (R58). -/
def execReaderReset (r : Reader) (s : State) : Host.Outcome State Fault Refusal :=
  .next (command r 0x24 [] 0 (answerReaderReset r) s)

end Sys2Proof.Machine
end

