-- ==== Sys2Proof/Machine/Resets.lean ====
section
/-! DEFINITION. Family: the device reset and its release. -/

namespace Sys2Proof.Machine

/-- The levels of the four CS_N lines, which the readers drive (R143). -/
def csLevels (s : State) : PerReader Bool := s.ports.mapWith fun _ p => p.csLow

/-- DEVICE_RESET (R62, R79, R100, R116, R117, R141, R156): every block at its reset values, BUSY asserted, RST_N low.
It asks nothing of the state: a reset during a reset finds the same values. -/
def execDeviceReset (s : State) : Host.Outcome State Fault Refusal :=
  .next (State.inReset s.pending (csLevels s))

/-- RESET_RELEASE (R106, R141): RST_N rises, the minimum-hold timer loads with 4 as if BUSY had just been asserted,
and the busy unit re-evaluates. With RST_N already high there is no rise. -/
def execResetRelease (s : State) : Host.Outcome State Fault Refusal :=
  .next (if s.rstLow then
      reevaluateBusy ((s.withRstLow false).withBusy
        { s.busy with output := true, minimumHold := .running Config.resetMinimumHold })
    else s)

end Sys2Proof.Machine
end

