-- ==== Sys2Proof/Machine/TimeEvents.lean ====
section
/-! DEFINITION. Family: the timebase, its references and the expiries that its pulses bring. -/

namespace Sys2Proof.Machine

/-- TICK (R100 to R102): the count advances, and the coarse and hold-clock pulses of the new count reach their timers. -/
def execTick (s : State) : Host.Outcome State Fault Refusal :=
  .next (whileRunning takeTick s)

/-- HOLD_EXPIRY (R68, R71, R72): the hold-clock pulse of the last tick, where it finds 1 in the reader's timer, and the expiry under the
policy as it stands. Where no such pulse waits, no expiry happens (log entry 4). -/
def execHoldExpiry (r : Reader) (s : State) : Host.Outcome State Fault Refusal :=
  .next (whileRunning (takeHoldExpiry r) s)

/-- MINIMUM_HOLD_EXPIRY (R136, R137). -/
def execMinimumHoldExpiry (s : State) : Host.Outcome State Fault Refusal :=
  .next (whileRunning takeMinimumHoldExpiry s)

/-- STRETCH_EXPIRY (R92). -/
def execStretchExpiry (s : State) : Host.Outcome State Fault Refusal :=
  .next (whileRunning takeStretchExpiry s)

/-- REFCLK_EDGE (R104, R105). -/
def execRefclkEdge (s : State) : Host.Outcome State Fault Refusal :=
  .next (whileRunning countRefclkEdge s)

/-- REFCLK_ABSENT (R104, R110). -/
def execRefclkAbsent (s : State) : Host.Outcome State Fault Refusal :=
  .next (whileRunning loseRefclk s)

/-- SETTLE_COMPLETE (R105, R141): the edge that brings the settle counter to 0. The command stands for the edges that remain of the
settle, all of them before the next tick or with it, where that tick's pulses come after it; where more remain, or in SETTLED, no such edge
comes and nothing changes (log entry 5). -/
def execSettleComplete (s : State) : Host.Outcome State Fault Refusal :=
  .next (whileRunning takeSettleComplete s)

end Sys2Proof.Machine
end

