-- ==== Sys2Proof/Machine/Transactions.lean ====
section
/-! DEFINITION. Family: the transactions of the reader ports, and the commands that only report (09). -/

namespace Sys2Proof.Machine

/-- The port after the falling edge of CS_N: in COMMAND with the header latched (R144, R145), or, while RST_N is low, still IDLE
with the line low (R156). -/
def openPort (r : Reader) (s : State) : ReaderPort :=
  if s.rstLow then { s.ports.get r with csLow := true }
  else { csLow := true, phase := .command, header := portHeader r s, command := none, args := [], status := none, reply := [],
         sent := 0 }

/-- TRANSACTION_OPEN (R145, R156). A line that is low already makes no falling edge. -/
def execTransactionOpen (r : Reader) (s : State) : Host.Outcome State Fault Refusal :=
  .next (if (s.ports.get r).csLow then s else s.withPorts (s.ports.set r (openPort r s)))

/-- TRANSACTION_END (R144, R148, R149): the port is IDLE, a transaction before its effect point is discarded, and what was not yet
read of a reply is lost. A line that is high already makes no rising edge. -/
def execTransactionEnd (r : Reader) (s : State) : Host.Outcome State Fault Refusal :=
  .next (if (s.ports.get r).csLow then s.withPorts (s.ports.set r (.idleAt false)) else s)

/-- BAD_COMMAND (R146, R151): an unknown code has no arguments and no reply, and its effect point is the command byte.
A code that is in the command index is no event of this row (log entry 3). -/
def execBadCommand (r : Reader) (code : Byte) (s : State) : Host.Outcome State Fault Refusal :=
  .next (if knownCommandCodes.contains code then s else command r code [] 0 (refuse .badCommand) s)

/-- STATUS (R153). -/
def execStatus (r : Reader) (s : State) : Host.Outcome State Fault Refusal :=
  .next (command r 0x01 [] 13 (fun t => perform (statusReply r t) t) s)

/-- TIME (R113). -/
def execTime (r : Reader) (s : State) : Host.Outcome State Fault Refusal :=
  .next (command r 0x02 [] 11 (fun t => perform (timeReply t) t) s)

end Sys2Proof.Machine
end

