-- ==== Sys2Proof/Machine/TriggerFrames.lean ====
section
/-! DEFINITION. Family: the trigger bus (05), with the entries and epoch resets that its frames ask for. -/

namespace Sys2Proof.Machine

/-! ### Marks (R86, R87) -/

/-- A mark truncates a frame in HEADER, CLASS, TAG or CHECK (R87). -/
def truncatable (x : FrameState) : Bool :=
  match x with
  | .header | .classByte | .tag | .check => true
  | .idle | .address | .holding | .sending | .passive => false

/-- BAD_FRAMES counts a truncated frame once (R87). -/
def countTruncation (s : State) : State :=
  if truncatable s.trigger.state then s.withCounters { s.counters with badFrames := s.counters.badFrames + 1 } else s

/-- The quality a start mark latches (R82). -/
def qualityNow (s : State) : Quality := if s.timebase.state = .settled then .settled else .unsettled

/-- A start mark: truncation, the latch of count and state, the capture of the addresses, ADDRESS (R80, R82, R86).
In HOLDING no mark can pass, for SCL is held low (R78, R87). -/
def takeStartMark (s : State) : State :=
  if s.trigger.state = .holding then s
  else
    let t := countTruncation s
    t.withTrigger { t.trigger with
      state := .address, frame := .empty, latchedCount := t.timebase.count, latchedQuality := qualityNow t,
      capturedAddress := t.settings.busAddress, capturedBroadcast := t.settings.broadcast, statusBytes := [],
      response := .quiet }

/-- A stop mark: truncation, then IDLE (R86, R87). -/
def takeStopMark (s : State) : State :=
  if s.trigger.state = .holding then s
  else
    let t := countTruncation s
    t.withTrigger { t.trigger with state := .idle, frame := .empty, statusBytes := [], response := .quiet }

/-! ### The bytes of a frame (R81, R83, R84, R88, R89) -/

/-- A byte taken and acknowledged, with the next frame state and the fields gathered. -/
def acknowledgeByte (next : FrameState) (f : Frame) (s : State) : State :=
  s.withTrigger { s.trigger with state := next, frame := f, response := .acknowledged }

/-- The address byte, judged by the captured values (R81). -/
def judgeAddress (byte : Byte) (s : State) : State :=
  if addressOf byte = s.trigger.capturedAddress then
    if isRead byte then
      (s.withTrigger { s.trigger with
        state := .sending, statusBytes := triggerStatusBytes s, response := .acknowledged })
    else acknowledgeByte .header .empty s
  else if addressOf byte = 0 ∧ isRead byte = false ∧ s.trigger.capturedBroadcast = true then
    acknowledgeByte .header { Frame.empty with broadcast := true } s
  else decideFrame .notAcknowledged s

/-- The header byte (R83). -/
def judgeHeader (byte : Byte) (s : State) : State :=
  let f := s.trigger.frame
  match headerKind byte with
  | none => badFrame s
  | some .trigger =>
    acknowledgeByte .classByte { f with kind := .trigger, source := headerSource byte, tagged := headerTag byte, sum := byte } s
  | some .epoch =>
    acknowledgeByte .check { f with kind := .epoch, source := headerSource byte, tagged := false, sum := byte } s

/-- The class byte (R84). -/
def judgeClass (byte : Byte) (s : State) : State :=
  let f := s.trigger.frame
  if classLow byte = 0 then
    acknowledgeByte (if f.tagged then .tag else .check) { f with cls := classOf byte, sum := f.sum + byte } s
  else badFrame s

/-- A tag byte (R84): after the second one the check byte is next. -/
def takeTagByte (byte : Byte) (s : State) : State :=
  let f := s.trigger.frame
  acknowledgeByte (if f.tagBytes.isEmpty then .tag else .check)
    { f with tagBytes := f.tagBytes ++ [byte], sum := f.sum + byte } s

/-- The check byte closes the frame's sum (R85). -/
def sumRight (byte : Byte) (s : State) : Bool := s.trigger.frame.sum + byte == Config.frameSum

/-- The check byte of a trigger frame, in the order of R88. -/
def judgeTriggerCheck (byte : Byte) (s : State) : State :=
  if !sumRight byte s then badFrame s
  else if s.numbering.epochPending then refuseEpoch s
  else if fill s < Config.tableSlots then acceptFrame s
  else if s.settings.stretchLimit = 0 then refuseFull s
  else holdFrame s

/-- The check byte of an epoch frame, in the order of R89. -/
def judgeEpochCheck (byte : Byte) (s : State) : State :=
  if !sumRight byte s then badFrame s
  else if s.settings.epochSource = .command then decideFrame .notAcknowledged s
  else decideFrame .acknowledged (requestEpochReset s)

/-- A byte arrives, and the frame state says which byte of a frame it is (R86).
In IDLE and PASSIVE it is ignored and not acknowledged. In HOLDING no byte can pass, and in SENDING the hub is the sender,
so none arrives from a source (R78). -/
def receiveByte (byte : Byte) (s : State) : State :=
  match s.trigger.state with
  | .idle | .passive => s.withTrigger { s.trigger with response := .notAcknowledged }
  | .address => judgeAddress byte s
  | .header => judgeHeader byte s
  | .classByte => judgeClass byte s
  | .tag => takeTagByte byte s
  | .check =>
    match s.trigger.frame.kind with
    | .trigger => judgeTriggerCheck byte s
    | .epoch => judgeEpochCheck byte s
  | .holding | .sending => s

/-! ### Status reads (R96) -/

/-- The next byte of a status read: a latched one, or 0x00. -/
def nextStatusByte (s : State) : Byte := s.trigger.statusBytes.headD 0

/-- A byte sent in SENDING; after one that the source does not acknowledge the port goes PASSIVE (R96).
Outside SENDING the hub sends no byte of a status read, so a command of this row leaves the state as it is: DESIGN CHOICE (log
entry 11). -/
def sendStatusByte (acknowledged : Bool) (s : State) : State :=
  if s.trigger.state = .sending then
    if acknowledged then
      s.withTrigger { s.trigger with statusBytes := s.trigger.statusBytes.tail, response := .sent (nextStatusByte s) }
    else decideFrame (.sent (nextStatusByte s)) s
  else s

/-! ### The commands -/

/-- START_MARK (R80, R82, R86, R87). -/
def execStartMark (s : State) : Host.Outcome State Fault Refusal := .next (whileRunning takeStartMark s)

/-- STOP_MARK (R86, R87). -/
def execStopMark (s : State) : Host.Outcome State Fault Refusal := .next (whileRunning takeStopMark s)

/-- ADDRESS_BYTE (R81). Which byte of a frame an arriving byte is, the frame state says (R86; log entry 11). -/
def execAddressByte (byte : Byte) (s : State) : Host.Outcome State Fault Refusal := .next (whileRunning (receiveByte byte) s)

/-- HEADER_BYTE (R83). -/
def execHeaderByte (byte : Byte) (s : State) : Host.Outcome State Fault Refusal := .next (whileRunning (receiveByte byte) s)

/-- CLASS_BYTE (R84). -/
def execClassByte (byte : Byte) (s : State) : Host.Outcome State Fault Refusal := .next (whileRunning (receiveByte byte) s)

/-- TAG_BYTE (R84). -/
def execTagByte (byte : Byte) (s : State) : Host.Outcome State Fault Refusal := .next (whileRunning (receiveByte byte) s)

/-- TRIGGER_CHECK_BYTE (R88). -/
def execTriggerCheckByte (byte : Byte) (s : State) : Host.Outcome State Fault Refusal :=
  .next (whileRunning (receiveByte byte) s)

/-- EPOCH_CHECK_BYTE (R89). -/
def execEpochCheckByte (byte : Byte) (s : State) : Host.Outcome State Fault Refusal :=
  .next (whileRunning (receiveByte byte) s)

/-- HOLDING_ENTRY (R93): the waiting frame asks for entry. The cascade or clear that frees a slot makes this same request inside
its own event (R22, R24), so the command finds a waiting frame and a free slot only where no event has made it. -/
def execHoldingEntry (s : State) : Host.Outcome State Fault Refusal := .next (whileRunning retryHeldFrame s)

/-- EPOCH_RESET (R122): a pending reset is applied to an empty table, and the busy unit re-evaluates.
The events of R22 step 1, R24 step 4, R121 and R124 apply it inside themselves (log entry 12). -/
def execEpochReset (s : State) : Host.Outcome State Fault Refusal :=
  .next (whileRunning
    (fun t => if t.numbering.epochPending && t.table.isEmpty then reevaluateBusy (applyEpochReset t) else t) s)

/-- STATUS_READ_BYTE (R96). -/
def execStatusReadByte (acknowledged : Bool) (s : State) : Host.Outcome State Fault Refusal :=
  .next (whileRunning (sendStatusByte acknowledged) s)

end Sys2Proof.Machine
end

