-- ==== Sys2Proof/Machine/Dispatch.lean ====
section
/-! DEFINITION. Every command's meaning: one arm per constructor. -/

namespace Sys2Proof.Machine

/-- The effect of a command on everything but the queue. -/
def exec (i : Instr) (s : State) : Host.Outcome State Fault Refusal :=
  match i with
  | .deviceReset => Sys2Proof.Machine.execDeviceReset s
  | .resetRelease => Sys2Proof.Machine.execResetRelease s
  | .tick => Sys2Proof.Machine.execTick s
  | .holdExpiry r => Sys2Proof.Machine.execHoldExpiry r s
  | .minimumHoldExpiry => Sys2Proof.Machine.execMinimumHoldExpiry s
  | .stretchExpiry => Sys2Proof.Machine.execStretchExpiry s
  | .refclkEdge => Sys2Proof.Machine.execRefclkEdge s
  | .refclkAbsent => Sys2Proof.Machine.execRefclkAbsent s
  | .settleComplete => Sys2Proof.Machine.execSettleComplete s
  | .startMark => Sys2Proof.Machine.execStartMark s
  | .stopMark => Sys2Proof.Machine.execStopMark s
  | .addressByte byte => Sys2Proof.Machine.execAddressByte byte s
  | .headerByte byte => Sys2Proof.Machine.execHeaderByte byte s
  | .classByte byte => Sys2Proof.Machine.execClassByte byte s
  | .tagByte byte => Sys2Proof.Machine.execTagByte byte s
  | .triggerCheckByte byte => Sys2Proof.Machine.execTriggerCheckByte byte s
  | .holdingEntry => Sys2Proof.Machine.execHoldingEntry s
  | .epochCheckByte byte => Sys2Proof.Machine.execEpochCheckByte byte s
  | .epochReset => Sys2Proof.Machine.execEpochReset s
  | .statusReadByte acknowledged => Sys2Proof.Machine.execStatusReadByte acknowledged s
  | .transactionOpen r => Sys2Proof.Machine.execTransactionOpen r s
  | .transactionEnd r => Sys2Proof.Machine.execTransactionEnd r s
  | .badCommand r code => Sys2Proof.Machine.execBadCommand r code s
  | .status r => Sys2Proof.Machine.execStatus r s
  | .time r => Sys2Proof.Machine.execTime r s
  | .causes r => Sys2Proof.Machine.execCauses r s
  | .take r => Sys2Proof.Machine.execTake r s
  | .release r epoch number => Sys2Proof.Machine.execRelease r epoch number s
  | .releaseOldest r => Sys2Proof.Machine.execReleaseOldest r s
  | .held r => Sys2Proof.Machine.execHeld r s
  | .attach r => Sys2Proof.Machine.execAttach r s
  | .detach r => Sys2Proof.Machine.execDetach r s
  | .resume r => Sys2Proof.Machine.execResume r s
  | .declareBusy r value => Sys2Proof.Machine.execDeclareBusy r value s
  | .readerReset r => Sys2Proof.Machine.execReaderReset r s
  | .claim r => Sys2Proof.Machine.execClaim r s
  | .yield r => Sys2Proof.Machine.execYield r s
  | .set r id value => Sys2Proof.Machine.execSet r id value s
  | .setBusyHigh r value => Sys2Proof.Machine.execSetBusyHigh r value s
  | .setBusyLow r value => Sys2Proof.Machine.execSetBusyLow r value s
  | .setForceBusy r value => Sys2Proof.Machine.execSetForceBusy r value s
  | .setSettleBusy r value => Sys2Proof.Machine.execSetSettleBusy r value s
  | .setTickPrescale r value => Sys2Proof.Machine.execSetTickPrescale r value s
  | .setRunNumber r value => Sys2Proof.Machine.execSetRunNumber r value s
  | .setAttnMask r target value => Sys2Proof.Machine.execSetAttnMask r target value s
  | .get r id => Sys2Proof.Machine.execGet r id s
  | .ruleWrite r index enable pattern mask sets interval => Sys2Proof.Machine.execRuleWrite r index enable pattern mask sets interval s
  | .ruleRead r index => Sys2Proof.Machine.execRuleRead r index s
  | .epoch r => Sys2Proof.Machine.execEpoch r s
  | .clear r => Sys2Proof.Machine.execClear r s
  | .reference r value => Sys2Proof.Machine.execReference r value s
  | .counter r index form => Sys2Proof.Machine.execCounter r index form s
  | .clearCounters r => Sys2Proof.Machine.execClearCounters r s

end Sys2Proof.Machine
end

