-- ==== Sys2Proof/Safety.lean ====
section
/-! DEFINITION. What holds of the hub after every event, block by block, as predicates of the state.
Each is stated, in Certificates/Slice0/Obligations.lean, to hold after reset and to be kept by every step. -/

namespace Sys2Proof.Machine

/-! ### Settings and rules (R27, R163, R164, R165) -/

/-- The shared settings lie in their ranges, and BUSY_LOW is less than BUSY_HIGH (R163, R165). -/
def Settings.Legal (t : Settings) : Prop :=
  (0x08 ≤ t.busAddress.toNat ∧ t.busAddress.toNat ≤ 0x77) ∧ t.stretchLimit ≤ 255 ∧ (1 ≤ t.busyHigh ∧ t.busyHigh ≤ 64) ∧
    t.busyLow ≤ 63 ∧ t.busyLow < t.busyHigh ∧ t.busyMinimum ≤ 255 ∧ t.runClass ≤ 16 ∧ t.tickPrescale ≤ 7 ∧
    (1 ≤ t.settleLength ∧ t.settleLength ≤ 15)

/-- A reader's settings lie in their ranges (R164). -/
def ReaderSettings.Legal (t : ReaderSettings) : Prop :=
  t.holdLimit ≤ 255 ∧ t.holdClock ≤ 7 ∧ (1 ≤ t.holdDepth ∧ t.holdDepth ≤ 4)

/-- Interval and countdown lie in 1 to 256, and the countdown does not exceed the interval from which it is reloaded (R27, R31). -/
def RoutingRule.Legal (x : RoutingRule) : Prop := 1 ≤ x.countdown ∧ x.countdown ≤ x.interval ∧ x.interval ≤ 256

/-- Every setting and rule is legal. -/
def settingsLegal (s : State) : Prop :=
  s.settings.Legal ∧ (∀ r, (s.readers.get r).settings.Legal) ∧ ∀ i, (s.rules.get i).Legal

/-! ### The event table (R1, R14, R21, R94, R123) -/

/-- The taken set and the released set are disjoint and lie in the required set (R14). -/
def EventRecord.Legal (x : EventRecord) : Prop :=
  ∀ r, (x.taken.get r = true → x.required.get r = true ∧ x.released.get r = false) ∧
    (x.released.get r = true → x.required.get r = true)

/-- The head still waits on a required reader (R21). -/
def headWaits (s : State) : Prop := ∀ x, s.table.head? = some x → complete x = false

/-- At most 64 live records, each legal, with a head that waits (R1, R14, R21); a pending epoch reset has a live record to wait
for (R123), and a frame in HOLDING has a full table and no pending reset to wait for (R94). -/
def tableLegal (s : State) : Prop :=
  fill s ≤ 64 ∧ (∀ x ∈ s.table, x.Legal) ∧ headWaits s ∧ (s.numbering.epochPending = true → s.table ≠ []) ∧
    (s.trigger.state = .holding → fill s = 64 ∧ s.numbering.epochPending = false)

/-! ### Identities (R2, R120) -/

/-- The successor of an identity (00, Conventions). -/
def successor (x : Identity) : Identity :=
  { epoch := if x.number = 0xFFFFFF#24 then x.epoch + 1 else x.epoch, number := x.number + 1 }

/-- The identity that the next record receives (R119). -/
def nextIdentity (s : State) : Identity := { epoch := s.numbering.epoch, number := s.numbering.nextNumber }

/-- Live records carry consecutive identities, and the next record continues the chain (R2); the roll mark stands only at
event number 0 (R120). -/
def identitiesConsecutive (s : State) : Prop :=
  s.table.IsChain (fun x y => y.identity = successor x.identity) ∧
    (∀ x, s.table.getLast? = some x → nextIdentity s = successor x.identity) ∧
    (s.numbering.rollMark = true → s.numbering.nextNumber = 0)

/-! ### Readers (R44, R45, R65) -/

/-- The identities of the live records that the reader has taken, in table order. -/
def takenBy (r : Reader) (s : State) : List Identity := (s.table.filter fun x => x.taken.get r).map (·.identity)

/-- The reader's hold list is the records it has taken, at most 4 (R45), none of them behind a record still available to it (R16);
a reader that is not ATTACHED is done with every record that names it (R44). -/
def readerMatchesTable (r : Reader) (s : State) : Prop :=
  (s.readers.get r).holdList = takenBy r s ∧ (s.readers.get r).holdList.length ≤ 4 ∧
    s.table.Pairwise (fun x y => availableTo r x = true → y.taken.get r = false) ∧
    (isAttached r s = false → ∀ x ∈ s.table, x.required.get r = true → x.released.get r = true)

/-- Every reader's context agrees with the table. -/
def readersMatchTable (s : State) : Prop := ∀ r, readerMatchesTable r s

/-- The hold timer is STOPPED exactly while the hold list is empty, and counts 1 to 255 while RUNNING (R65). -/
def holdTimerLegal (c : ReaderContext) : Prop :=
  (c.holdTimer = .stopped ↔ c.holdList = []) ∧ ∀ v, c.holdTimer = .running v → 1 ≤ v ∧ v ≤ 255

/-- Every hold timer is legal, and the stretch timer runs exactly while the port is HOLDING, with 1 to 255 (R91). -/
def timersLegal (s : State) : Prop :=
  (∀ r, holdTimerLegal (s.readers.get r)) ∧ (s.trigger.stretchTimer = .stopped ↔ s.trigger.state ≠ .holding) ∧
    ∀ v, s.trigger.stretchTimer = .running v → 1 ≤ v ∧ v ≤ 255

/-! ### The busy unit (R131, R133, R135) -/

/-- BUSY is asserted while a source is active (R131); the minimum-hold timer is IDLE exactly while it is deasserted and counts
1 to 255 while RUNNING (R135); and FILL agrees with the marks (R133). -/
def busyLegal (s : State) : Prop :=
  (anySource s = true → s.busy.output = true) ∧ (s.busy.minimumHold = .idle ↔ s.busy.output = false) ∧
    (∀ v, s.busy.minimumHold = .running v → 1 ≤ v ∧ v ≤ 255) ∧
    (s.settings.busyHigh ≤ fill s → s.busy.fillActive = true) ∧ (fill s ≤ s.settings.busyLow → s.busy.fillActive = false)

/-! ### The timebase (R101, R104, R105, R110) -/

/-- The settle counter is 0 in SETTLED and only there (R105), and no cycle is uncounted there or on REFCLK (log entry 5); the counter never exceeds
65,536 (R106); EXTERNAL is selected only while REFCLK is PRESENT (R108, R110); the divider counts the edges of one tick, all of them where
a tick waits (R101; log entry 5); and the monitor counts to 64 (R104). -/
def timebaseLegal (s : State) : Prop :=
  (s.timebase.state = .settled ↔ s.timebase.settleCounter = 0) ∧ s.timebase.settleCounter ≤ 65536 ∧
    (s.timebase.selection = .external → s.timebase.monitor = .present) ∧ s.timebase.divider ≤ 2 ^ s.settings.tickPrescale ∧
    s.timebase.monitorCount ≤ 64 ∧ (s.timebase.state = .settled ∨ s.timebase.selection = .external → s.timebase.uncounted = 0)

/-! ### The trigger port (R83, R84, R86, R87) -/

/-- The gathered fields belong to the frame state: none outside a frame, a trigger frame's in CLASS, TAG and HOLDING, and the tag
bytes as many as have arrived. -/
def fieldsLegal (p : TriggerPort) : Prop :=
  match p.state with
  | .idle | .address | .sending | .passive => p.frame = .empty
  | .header => p.frame.tagBytes = []
  | .classByte => p.frame.kind = .trigger ∧ p.frame.tagBytes = []
  | .tag => p.frame.kind = .trigger ∧ p.frame.tagged = true ∧ p.frame.tagBytes.length ≤ 1
  | .check | .holding =>
    (p.state = .holding → p.frame.kind = .trigger) ∧ p.frame.tagBytes.length = (if p.frame.tagged then 2 else 0)

/-- The gathered fields are legal, and the captured address lies in the range of BUS_ADDRESS (R80, R163). -/
def frameLegal (p : TriggerPort) : Prop :=
  fieldsLegal p ∧ 0x08 ≤ p.capturedAddress.toNat ∧ p.capturedAddress.toNat ≤ 0x77

/-! ### The reader ports (R144, R150, R156) -/

/-- The phases past the effect point (R144). -/
def pastEffect : Phase → Bool
  | .turnaround | .status | .reply | .trailing => true
  | .idle | .command | .arguments => false

/-- Outside IDLE the port's CS_N is low and RST_N is high; in IDLE it holds nothing (log entry 9); past the effect point it holds the
command byte with all its arguments and a status, and zeros for the reply of a command that was not answered OK (R146, R150); and in
REPLY a reply byte is left to send. -/
def portLegal (rstLow : Bool) (p : ReaderPort) : Prop :=
  (p.phase ≠ .idle → p.csLow = true ∧ rstLow = false) ∧ (p.phase = .idle → p = .idleAt p.csLow) ∧
    (pastEffect p.phase = true →
      (∃ code, p.command = some code ∧ p.args.length = argumentCount code) ∧ p.status.isSome = true ∧
        (p.status ≠ some .ok → ∀ byte ∈ p.reply, byte = 0)) ∧
    (p.phase = .reply → p.sent < p.reply.length)

/-- Every port is legal. -/
def portsLegal (s : State) : Prop := ∀ r, portLegal s.rstLow (s.ports.get r)

/-! ### The reset line (R79, R100, R104, R141, R156) -/

/-- While RST_N is low every block stands at its reset values. -/
def resetStands (s : State) : Prop := s.rstLow = true → s = State.inReset s.pending (csLevels s)

end Sys2Proof.Machine
end

