-- ==== Sys2Proof/Certificates/Slice0/Obligations.lean ====
section
/-! DEFINITION. The statements for the provers, after the words they are written in.
Every statement about a command concludes that `exec` answers a next state and says which: a whole state, all of whose fields that
the equation does not name are those of the state before. -/

namespace Sys2Proof.Machine

/-! ### The words of the statements -/

/-- The port of `r` awaits a command byte: RST_N is high and its transaction is in COMMAND (R144). -/
def takesCommand (r : Reader) (s : State) : Prop := s.rstLow = false ∧ (s.ports.get r).phase = .command

/-- `u` with the port of `r` past the effect point of a command, its status and reply latched (R147). -/
def answered (r : Reader) (code : Byte) (args : List Byte) (status : StatusCode) (reply : List Byte) (u : State) : State :=
  { u with ports := u.ports.set r { u.ports.get r with
      phase := .turnaround, command := some code, args := args, status := some status, reply := reply, sent := 0 } }

/-- The reader whose port brings the command; none for an event that is no reader command. -/
def readerOf : Instr → Option Reader
  | .badCommand r _ | .status r | .time r | .causes r | .take r | .release r _ _ | .releaseOldest r | .held r | .attach r
  | .detach r | .resume r | .declareBusy r _ | .readerReset r | .claim r | .yield r | .set r _ _ | .setBusyHigh r _
  | .setBusyLow r _ | .setForceBusy r _ | .setSettleBusy r _ | .setTickPrescale r _ | .setRunNumber r _ | .setAttnMask r _ _
  | .get r _ | .ruleWrite r _ _ _ _ _ _ | .ruleRead r _ | .epoch r | .clear r | .reference r _ | .counter r _ _
  | .clearCounters r => some r
  | _ => none

/-- The number of reply bytes of a reader command (09 section 9.5, R146). -/
def fixedReplyLength : Instr → Nat
  | .status _ => 13
  | .time _ => 11
  | .causes _ | .get _ _ => 2
  | .take _ => 19
  | .held _ => 17
  | .ruleRead _ _ => 6
  | .counter _ _ form => if form = 1 then 5 else 4
  | _ => 0

/-- No tick waits: the divider stands below 2 to the power TICK_PRESCALE (R101; log entry 5). -/
def noTickDue (s : State) : Prop := s.timebase.divider < 2 ^ s.settings.tickPrescale

/-- No pulse of an earlier tick waits at a timer (log entry 4). -/
def nothingDue (s : State) : Prop :=
  (∀ r, (s.readers.get r).holdTimer ≠ .pulseDue) ∧ ¬(s.trigger.state = .holding ∧ s.trigger.stretchTimer = .pulseDue) ∧
    s.busy.minimumHold ≠ .pulseDue

/-- The state after some commands, one after another. -/
def afterCommands (l : List Instr) (s : State) : State :=
  l.foldl (fun u c => match exec c u with
    | .next t => t
    | .fault _ | .refused _ => u) s

/-- A cause set for every reader that satisfies a condition (R170, R171). -/
def causesFor (who : Reader → Bool) (bit : BitVec 9) (s : State) : State :=
  { s with readers := s.readers.mapWith fun r c => if who r then { c with causes := c.causes ||| bit } else c }

/-- One more refused trigger frame in the gap count, which saturates at 255 (R95). -/
def gapRaised (gap : BitVec 8) : BitVec 8 := if gap = 255 then 255 else gap + 1

/-- The trigger port PASSIVE after a decided byte, with its answer on the wire and no stretch (R86, R91). That it keeps no
gathered field and no status byte is the model's choice (log entry 15). -/
def passive (answer : Response) (p : TriggerPort) : TriggerPort :=
  { p with state := .passive, frame := .empty, stretchTimer := .stopped, statusBytes := [], response := answer }

/-- A bad or truncated frame counted (R87, R175). -/
def badFrameCounted (c : Counters) : Counters := { c with badFrames := c.badFrames + 1 }

/-- The readers that routing names for the frame in the port (R32). -/
def routedReaders (s : State) : ReaderSet :=
  match matchingRule s.rules s.trigger.frame.source s.trigger.frame.cls with
  | none => s.settings.defaultSet
  | some i =>
    if (s.rules.get i).countdown ≤ 1 then (s.rules.get i).full.union (s.rules.get i).sampled else (s.rules.get i).full

/-- The record's sample is due (R31, R32). -/
def sampledRecord (s : State) : Bool :=
  match matchingRule s.rules s.trigger.frame.source s.trigger.frame.cls with
  | none => false
  | some i => (s.rules.get i).countdown ≤ 1

/-- The rules after the entry: the matching rule's countdown lowered, or reloaded where the sample was due (R31). -/
def rulesAfterRouting (s : State) : RuleTable :=
  match matchingRule s.rules s.trigger.frame.source s.trigger.frame.cls with
  | none => s.rules
  | some i =>
    let x := s.rules.get i
    s.rules.set i { x with countdown := if x.countdown ≤ 1 then x.interval else x.countdown - 1 }

/-- The required set: the routed readers that are ATTACHED (R33). -/
def requiredReaders (s : State) : ReaderSet :=
  ReaderSet.ofPred fun r => (routedReaders s).get r && (s.readers.get r).state == .attached

/-- The frame in the port starts a run (R127). -/
def runStarts (s : State) : Bool := s.trigger.frame.cls.toNat == s.settings.runClass

/-- The run number with the entry's own increment (R127). -/
def runNumberNow (s : State) : BitVec 16 := if runStarts s then s.numbering.runNumber + 1 else s.numbering.runNumber

/-- The entry rolls the epoch over (R120). -/
def entryRolls (s : State) : Bool := s.numbering.nextNumber == 0xFFFFFF#24

/-- The record that the frame in the port makes at its entry (R4 to R10, R12). -/
def enteredRecord (s : State) : EventRecord :=
  { identity := { epoch := s.numbering.epoch, number := s.numbering.nextNumber }, runNumber := runNumberNow s,
    timestamp := s.trigger.latchedCount, quality := s.trigger.latchedQuality, source := s.trigger.frame.source,
    cls := s.trigger.frame.cls, tag := frameTag s.trigger.frame, gap := s.trigger.gap,
    rule := matchingRule s.rules s.trigger.frame.source s.trigger.frame.cls, required := requiredReaders s,
    taken := ⟨false, false, false, false⟩, released := ⟨false, false, false, false⟩, sampled := sampledRecord s,
    runStart := runStarts s, roll := s.numbering.rollMark, forced := false }

/-- A reader's context after the entry: a missed record for a routed LAPSED reader (R34), and the causes AVAILABLE, RUN_START and
EPOCH (item 6 of R12). -/
def contextAfterEntry (s : State) (r : Reader) (c : ReaderContext) : ReaderContext :=
  let missed := (routedReaders s).get r && c.state == .lapsed
  let attached := c.state == .attached
  { c with
    missed := if missed then (if c.missed = 0xFFFF then 0xFFFF else c.missed + 1) else c.missed
    causes := c.causes ||| (if (requiredReaders s).get r then 0x001 else 0) ||| (if attached && runStarts s then 0x010 else 0) |||
      (if attached && entryRolls s then 0x008 else 0) }

/-- The entry of the frame in the port, its check byte acknowledged, before the busy unit re-evaluates (R12, R13, R88). -/
def entryResult (s : State) : State :=
  { s with
    table := if s.table = [] ∧ requiredReaders s = ⟨false, false, false, false⟩ then [] else s.table ++ [enteredRecord s]
    rules := rulesAfterRouting s
    readers := s.readers.mapWith (contextAfterEntry s)
    numbering := { s.numbering with
      nextNumber := s.numbering.nextNumber + 1
      epoch := if entryRolls s then s.numbering.epoch + 1 else s.numbering.epoch
      runNumber := runNumberNow s
      rollMark := entryRolls s }
    trigger := { passive .acknowledged s.trigger with gap := 0 }
    counters := { s.counters with
      triggersAccepted := s.counters.triggersAccepted + 1
      epochChanges := if entryRolls s then s.counters.epochChanges + 1 else s.counters.epochChanges } }

/-- Items 1 to 4 of an applied epoch reset (R122). -/
def epochApplied (s : State) : State :=
  { causesFor (fun r => (s.readers.get r).state == .attached) 0x008 s with
    numbering := { s.numbering with
      epoch := s.numbering.epoch + 1, nextNumber := 0, epochPending := false, rollMark := false }
    counters := { s.counters with epochChanges := s.counters.epochChanges + 1 } }

/-- A settle starts on a reference, whose divider restarts (R105, R107). -/
def settleStarted (x : ReferenceSelection) (t : Timebase) (settings : Settings) : Timebase :=
  { t with selection := x, state := .settling, settleCounter := settings.settleLength * 4096, divider := 0, uncounted := 0 }

/-- A completed settle: SETTLED, the cause for all four readers, and a re-evaluation (R105). -/
def settleDone (s : State) : State :=
  reevaluateBusy (causesFor (fun _ => true) 0x080 { s with
    timebase := { s.timebase with state := .settled, settleCounter := 0, uncounted := 0 } })

/-- `n` edges of the selected reference at the settle counter (R105). -/
def settledBy (n : Nat) (s : State) : State :=
  if s.timebase.state = .settling then
    if s.timebase.settleCounter ≤ n then settleDone s
    else { s with timebase := { s.timebase with settleCounter := s.timebase.settleCounter - n } }
  else s

/-- Edges of the selected reference are REFCLK's where EXTERNAL is selected, and show it PRESENT (R104). -/
def seenBy (n : Nat) (t : Timebase) : Timebase :=
  if t.selection = .external ∧ 0 < n then { t with monitor := .present, monitorCount := 0 } else t

/-- A write of TICK_PRESCALE restarts the divider (R101) and leaves the settle counter (R105). Cycles of the internal reference that
may have passed since the last tick, in a settle, are noted as uncounted (log entry 5). -/
def dividerRestarted (perTick : Nat) (t : Timebase) : Timebase :=
  { t with
    divider := 0
    uncounted :=
      if t.state = .settling ∧ t.selection = .internal then
        min (t.uncounted + (perTick - t.divider - 1)) (t.settleCounter - 1)
      else t.uncounted }

/-- Steps 1 to 3 of a hub clear (R24). -/
def tableCleared (s : State) : State :=
  { s with
    table := []
    readers := s.readers.mapWith fun _ c => { c with holdList := [], holdTimer := .stopped }
    trigger := { s.trigger with gap := 0 } }

/-- The record with the reader done, and out of the taken set (R17, R19). -/
def doneBy (r : Reader) (x : EventRecord) : EventRecord :=
  { x with taken := x.taken.set r false, released := x.released.set r true }

/-- The table after a mass release of the reader (R19). -/
def allDoneBy (r : Reader) (t : List EventRecord) : List EventRecord :=
  t.map fun x => if x.required.get r then doneBy r x else x

/-- A reader's context after a mass release, in a new state (R19, R54). -/
def leftBy (x : ReaderState) (c : ReaderContext) : ReaderContext :=
  { c with state := x, holdList := [], holdTimer := .stopped }

/-- The hold timer when a record becomes first entry, or STOPPED where none is left (R51, R67). -/
def loaded (limit : Nat) (list : List Identity) : HoldTimer :=
  if list = [] then .stopped else if limit = 0 then .untimed else .running limit

/-- The hold timer at a load that a release makes: where a pulse still waits at the timer, it at once takes one count from the new
value (R68). -/
def reloaded (old : HoldTimer) (limit : Nat) (list : List Identity) : HoldTimer :=
  match old, loaded limit list with
  | .pulseDue, .running v => if v ≤ 1 then .pulseDue else .running (v - 1)
  | _, new => new

/-- The thirty-five settings: id, setting, range and reset value (R163, R164). -/
def settingTable : List (Byte × Setting × Nat × Nat × Nat) :=
  [(0x01, .shared .busAddress, 0x08, 0x77, 0x3C), (0x02, .shared .broadcast, 0, 1, 1), (0x03, .shared .stretchLimit, 0, 255, 16),
   (0x04, .shared .busyHigh, 1, 64, 48), (0x05, .shared .busyLow, 0, 63, 32), (0x06, .shared .busyMinimum, 0, 255, 4),
   (0x07, .shared .forceBusy, 0, 1, 0), (0x08, .shared .settleBusy, 0, 1, 1), (0x09, .shared .epochSource, 0, 1, 0),
   (0x0A, .shared .runClass, 0, 16, 16), (0x0B, .shared .runNumber, 0, 65535, 0), (0x0C, .shared .defaultSet, 0, 15, 15),
   (0x0D, .shared .tickPrescale, 0, 7, 0), (0x0E, .shared .settleLength, 1, 15, 4), (0x0F, .shared .countersOpen, 0, 1, 1)] ++
  [(0x20, .ofReader .a .holdLimit, 0, 255, 0), (0x21, .ofReader .a .holdClock, 0, 7, 3), (0x22, .ofReader .a .holdPolicy, 0, 1, 0),
   (0x23, .ofReader .a .holdDepth, 1, 4, 4), (0x24, .ofReader .a .attnMask, 0, 0x1FF, 0x1FF),
   (0x28, .ofReader .b .holdLimit, 0, 255, 0), (0x29, .ofReader .b .holdClock, 0, 7, 3), (0x2A, .ofReader .b .holdPolicy, 0, 1, 0),
   (0x2B, .ofReader .b .holdDepth, 1, 4, 4), (0x2C, .ofReader .b .attnMask, 0, 0x1FF, 0x1FF)] ++
  [(0x30, .ofReader .c .holdLimit, 0, 255, 0), (0x31, .ofReader .c .holdClock, 0, 7, 3), (0x32, .ofReader .c .holdPolicy, 0, 1, 0),
   (0x33, .ofReader .c .holdDepth, 1, 4, 4), (0x34, .ofReader .c .attnMask, 0, 0x1FF, 0x1FF),
   (0x38, .ofReader .d .holdLimit, 0, 255, 0), (0x39, .ofReader .d .holdClock, 0, 7, 3), (0x3A, .ofReader .d .holdPolicy, 0, 1, 0),
   (0x3B, .ofReader .d .holdDepth, 1, 4, 4), (0x3C, .ofReader .d .attnMask, 0, 0x1FF, 0x1FF)]

/-- The values the spec gives every block after a device reset (R27, R28, R42, R65, R79, R116, R117, R133, R157, R163, R164, R169, R175). -/
def resetValues (s : State) : Prop :=
  s.table = [] ∧
    (∀ i, s.rules.get i =
      { enable := false, patternSource := 0, patternClass := 0, maskSource := 0, maskClass := 0,
        full := ⟨false, false, false, false⟩, sampled := ⟨false, false, false, false⟩, interval := 1, countdown := 1 }) ∧
    (∀ r, s.readers.get r =
      { state := .detached, holdList := [], declaredBusy := false, missed := 0, holdTimer := .stopped, causes := 0,
        settings := { holdLimit := 0, holdClock := 3, holdPolicy := .force, holdDepth := 4, attnMask := 0x1FF } }) ∧
    (s.trigger.state = .idle ∧ s.trigger.latchedCount = 0 ∧ s.trigger.latchedQuality = .unsettled ∧
      s.trigger.stretchTimer = .stopped ∧ s.trigger.gap = 0 ∧ s.trigger.response = .quiet) ∧
    (s.timebase.count = 0 ∧ s.timebase.selection = .internal ∧ s.timebase.state = .settling ∧
      s.timebase.settleCounter = 65536 ∧ s.timebase.monitor = .absent ∧ s.timebase.monitorCount = 0) ∧
    s.numbering = { nextNumber := 0, epoch := 0, runNumber := 0, epochPending := false, rollMark := false } ∧
    s.settings =
      { busAddress := 0x3C, broadcast := true, stretchLimit := 16, busyHigh := 48, busyLow := 32, busyMinimum := 4,
        forceBusy := false, settleBusy := true, epochSource := .bus, runClass := 16, defaultSet := ⟨true, true, true, true⟩,
        tickPrescale := 0, settleLength := 4, countersOpen := true } ∧
    s.token = none ∧ (∀ r, (s.ports.get r).phase = .idle) ∧ (∀ i, i < 16 → counterValue s.counters i = 0) ∧
    s.busy.fillActive = false ∧ s.busy.output = true

end Sys2Proof.Machine

section Statements

open Sys2Proof Sys2Proof.Machine

/-! ### Steps -/

/-- A step takes the command at the front of the queue, on the state with the queue's rest; with no command waiting a byte time passes
on the reader ports (the model's queue and the model's byte time, log entries 1 and 10). -/
def Obligations.StepTakesTheFrontCommand : Prop :=
  (∀ (c : Instr) (rest : List Instr) (s : State), s.pending = c :: rest → step s = exec c { s with pending := rest }) ∧
    ∀ s : State, s.pending = [] → step s = .next (byteTime s)

/-- Every command is taken in every state, and the queue is the outside's alone. The queue is the model's choice (log entry 1), and so
is it that an event which cannot occur in a state answers a next state all the same (log entries 3, 4, 5, 11 and 12). -/
def Obligations.EveryCommandAnswersNext : Prop :=
  ∀ (c : Instr) (s : State), ∃ t, exec c s = .next t ∧ t.pending = s.pending

/-! ### Resets -/

/-- The state after reset holds the spec's reset values, with BUSY asserted and the minimum-hold timer at 4 (R141). That this state is the
one at the rise of RST_N, the line high, is DEDUCED (log entry 2), and the empty queue of commands is the model's (log entry 1). -/
def Obligations.ResetStateHoldsTheResetValues : Prop :=
  resetValues State.reset ∧ State.reset.rstLow = false ∧ State.reset.pending = [] ∧
    State.reset.busy.minimumHold = .running 4

/-- DEVICE_RESET returns every block to its reset values from any state, and the rise of RST_N then loads the minimum hold with 4
and changes nothing else (R62, R106, R141). -/
def Obligations.DeviceResetAndItsRelease : Prop :=
  (∀ s : State, ∃ t, exec .deviceReset s = .next t ∧ t.rstLow = true ∧ resetValues t ∧ t.pending = s.pending ∧
    (∀ r, (t.ports.get r).csLow = (s.ports.get r).csLow) ∧
    exec .resetRelease t =
      .next { t with rstLow := false, busy := { fillActive := false, output := true, minimumHold := .running 4 } }) ∧
    ∀ s : State, s.rstLow = false → exec .resetRelease s = .next s

/-! ### Time -/

/-- TICK advances the 48-bit count by one, wrapping to 0, in every running state, and restarts the divider; the settings, the token
and the ports are untouched. While RST_N is low no tick counts (R100). -/
def Obligations.TickAdvancesTheCount : Prop :=
  (∀ s : State, s.rstLow = false → ∃ t, exec .tick s = .next t ∧ t.timebase.count = s.timebase.count + 1 ∧
    (s.timebase.count = 0xFFFFFFFFFFFF#48 → t.timebase.count = 0) ∧ t.timebase.divider = 0 ∧
    t.settings = s.settings ∧ t.token = s.token ∧ t.ports = s.ports ∧ t.rstLow = false) ∧
    ∀ s : State, s.rstLow = true → exec .tick s = .next s

/-- TICK with no pulse of an earlier tick at a timer: the edges that remain until the tick, with the completion of a settle that they
end, and the coarse and hold-clock pulses of the new count, each at its own timer (R66, R68, R92, R101, R102, R104, R105, R137). A settle
that ends on an edge before the tick's own is complete before the pulses; of one that ends on the tick's own edge TICK takes the pulse
before the completion, one of the two orders of R141, and SETTLE_COMPLETE before TICK gives the other. The order of coarse
pulse and hold-clock pulses is the model's choice (log entry 14). A pulse that would bring a timer to 0 waits for
the expiry command, that of the minimum hold with its BUSY_TICKS count; and where pulses of an earlier tick still wait, TICK takes them
first, as the expiry commands would in the order A to D, stretch, minimum hold (the model's choices, log entries 4 and 5). -/
def Obligations.TickTakesItsPulses : Prop :=
  (∀ s : State, s.rstLow = false → nothingDue s →
    let edges := 2 ^ s.settings.tickPrescale - s.timebase.divider
    let u := settledBy (edges - 1) { s with timebase := seenBy edges s.timebase }
    let n := s.timebase.count + 1
    let coarse := n.toNat % 256 = 0
    let left := match u.busy.minimumHold with
      | .running v => v ≤ 1
      | _ => false
    exec .tick s = .next (settledBy (min edges 1) { u with
      timebase := { u.timebase with count := n, divider := 0 }
      readers := u.readers.mapWith fun _ c =>
        if n.toNat % (16 * 4 ^ c.settings.holdClock) = 0 then
          { c with holdTimer :=
              match c.holdTimer with
              | .running v => if v ≤ 1 then .pulseDue else .running (v - 1)
              | other => other }
        else c
      trigger := { u.trigger with
        stretchTimer :=
          match u.trigger.stretchTimer with
          | .running v =>
            if coarse ∧ u.trigger.state = .holding then (if v ≤ 1 then .pulseDue else .running (v - 1)) else .running v
          | other => other }
      busy := { u.busy with
        minimumHold :=
          match u.busy.minimumHold with
          | .running v => if coarse then (if v ≤ 1 then .pulseDue else .running (v - 1)) else .running v
          | other => other }
      counters := { u.counters with
        busyTicks :=
          if coarse ∧ u.busy.output = true ∧ left = false
          then u.counters.busyTicks + 1 else u.counters.busyTicks } })) ∧
    ∀ s : State, s.rstLow = false →
      let t := afterCommands
        [.holdExpiry .a, .holdExpiry .b, .holdExpiry .c, .holdExpiry .d, .stretchExpiry, .minimumHoldExpiry] s
      t.rstLow = false ∧ nothingDue t ∧ exec .tick s = exec .tick t

/-- HOLD_EXPIRY under FORCE, its pulse waiting, on a reader whose first entry is the record `x`: the record is force-released, counted and told to
the reader, the table retires what that completes, and the timer loads for the next entry (R18, R71). -/
def Obligations.HoldExpiryUnderForce : Prop :=
  ∀ (r : Reader) (s : State) (before after : List EventRecord) (x : EventRecord) (rest : List Identity),
    s.rstLow = false → (s.readers.get r).holdTimer = .pulseDue → (s.readers.get r).settings.holdPolicy = .force →
    (s.readers.get r).holdList = x.identity :: rest → s.table = before ++ x :: after → x.taken.get r = true →
    (∀ y ∈ before, y.identity ≠ x.identity) →
    let c := s.readers.get r
    let u := cascade { s with
      table := before ++ { doneBy r x with forced := true } :: after
      readers := s.readers.set r { c with holdList := rest, causes := c.causes ||| 0x002 }
      counters := { s.counters with
        forcedReleases := s.counters.forcedReleases.set r (s.counters.forcedReleases.get r + 1) } }
    exec (.holdExpiry r) s = .next { u with
      readers := u.readers.set r { u.readers.get r with holdTimer := loaded c.settings.holdLimit rest } }

/-- HOLD_EXPIRY under LAPSE, its pulse waiting, in a state whose contexts agree with the table: every record the reader holds is force-released,
every other one that names it is mass-released without FORCED, the reader is LAPSED and told so, and the table retires what that
completes (R56, R72). Where no pulse waits at the reader's timer the command changes nothing (log
entry 4). -/
def Obligations.HoldExpiryUnderLapse : Prop :=
  (∀ (r : Reader) (s : State), s.rstLow = false → tableLegal s → identitiesConsecutive s → readersMatchTable s →
    (s.readers.get r).holdTimer = .pulseDue → (s.readers.get r).settings.holdPolicy = .lapse →
    let c := s.readers.get r
    exec (.holdExpiry r) s = .next (reevaluateBusy (cascade { s with
      table := s.table.map fun x =>
        if x.required.get r then { doneBy r x with forced := x.forced || x.taken.get r } else x
      readers := s.readers.set r { c with
        state := .lapsed, holdList := [], holdTimer := .stopped, causes := c.causes ||| 0x004 }
      counters := { s.counters with
        forcedReleases := s.counters.forcedReleases.set r
          (s.counters.forcedReleases.get r + BitVec.ofNat 40 c.holdList.length) } }))) ∧
    ∀ (r : Reader) (s : State), (s.readers.get r).holdTimer ≠ .pulseDue → exec (.holdExpiry r) s = .next s

/-- MINIMUM_HOLD_EXPIRY, its pulse waiting: BUSY_TICKS counts, and the timer is ELAPSED, or BUSY is deasserted where every source is inactive
(R136, R137). Otherwise nothing changes (log entry 4). -/
def Obligations.MinimumHoldExpiry : Prop :=
  (∀ s : State, s.rstLow = false → s.busy.minimumHold = .pulseDue →
    exec .minimumHoldExpiry s = .next { s with
      counters := { s.counters with
        busyTicks := if s.busy.output then s.counters.busyTicks + 1 else s.counters.busyTicks }
      busy := if anySource s then { s.busy with minimumHold := .elapsed }
        else { s.busy with output := false, minimumHold := .idle } }) ∧
    ∀ s : State, s.busy.minimumHold ≠ .pulseDue → exec .minimumHoldExpiry s = .next s

/-- STRETCH_EXPIRY, its pulse waiting: the held frame is refused as full (R92). Otherwise nothing changes (log entry 4).
That no gathered field is kept is the model's choice (log entry 15). -/
def Obligations.StretchExpiryRefusesTheHeldFrame : Prop :=
  (∀ s : State, s.rstLow = false → s.trigger.state = .holding → s.trigger.stretchTimer = .pulseDue →
    exec .stretchExpiry s = .next { s with
      trigger := { passive .notAcknowledged s.trigger with gap := gapRaised s.trigger.gap }
      counters := { s.counters with refusedFull := s.counters.refusedFull + 1 } }) ∧
    ∀ s : State, ¬(s.trigger.state = .holding ∧ s.trigger.stretchTimer = .pulseDue) → exec .stretchExpiry s = .next s

/-- SETTLE_COMPLETE: the edge that brings the settle counter to 0 makes the timebase SETTLED, with the cause for all four readers and a
re-evaluation (R105). The command stands for the edges that remain of the settle, less the cycles that may have passed uncounted, no tick
before them, and advances the divider by those alone, so that an edge which TICK has counted is not counted again (R101); with a tick due,
that is taken first; where more edges remain than up to the next tick, or no settle is in progress, no such edge comes and nothing changes
(the model's choice, log entry 5). At the last cycle of the settle after reset, TICK before SETTLE_COMPLETE
leaves 256 in BUSY_TICKS and SETTLE_COMPLETE before TICK 255, with BUSY deasserted in both (R141). -/
def Obligations.SettleCompletes : Prop :=
  (∀ s : State, s.rstLow = false →
    let n := s.timebase.settleCounter
    let k := s.timebase.uncounted
    let edges := n - k
    let perTick := 2 ^ s.settings.tickPrescale
    (s.timebase.state = .settling → noTickDue s → n ≤ k + (perTick - s.timebase.divider) →
      exec .settleComplete s = .next (settleDone
        { s with timebase := { seenBy edges s.timebase with divider := s.timebase.divider + edges } })) ∧
    (s.timebase.state = .settling → ¬noTickDue s → 0 < n → n ≤ k + perTick →
      ∃ t, exec .tick s = .next t ∧ exec .settleComplete s = exec .settleComplete t) ∧
    (noTickDue s → k + (perTick - s.timebase.divider) < n → exec .settleComplete s = .next s) ∧
    (k + perTick < n → exec .settleComplete s = .next s) ∧
    (s.timebase.state = .settled → exec .settleComplete s = .next s)) ∧
    let last : State := { State.reset with
      timebase := { State.reset.timebase with count := 65535, settleCounter := 1 }
      busy := { State.reset.busy with minimumHold := .elapsed }
      counters := { State.reset.counters with busyTicks := 255 } }
    let pulseFirst := afterCommands [.tick, .settleComplete] last
    let completionFirst := afterCommands [.settleComplete, .tick] last
    (pulseFirst.counters.busyTicks = 256 ∧ pulseFirst.busy.output = false) ∧
      (completionFirst.counters.busyTicks = 255 ∧ completionFirst.busy.output = false)

/-- REFCLK_EDGE: the monitor is PRESENT with its count at 0, and with EXTERNAL selected the edge also advances the divider and lowers a
settle in progress, which the edge that brings the counter to 0 completes (R101, R104, R105). A tick that earlier edges made due is
taken first, as its own command would take it (the model's choice, log entry 5). -/
def Obligations.RefclkEdgeIsSeen : Prop :=
  ∀ s : State, s.rstLow = false →
    let seen := { s.timebase with monitor := .present, monitorCount := 0 }
    (s.timebase.selection = .internal → exec .refclkEdge s = .next { s with timebase := seen }) ∧
    (s.timebase.selection = .external → noTickDue s →
      let u := { s with timebase := { seen with divider := s.timebase.divider + 1 } }
      (s.timebase.state = .settled → exec .refclkEdge s = .next u) ∧
      (s.timebase.state = .settling → s.timebase.settleCounter ≤ 1 → exec .refclkEdge s = .next (settleDone u)) ∧
      (s.timebase.state = .settling → 1 < s.timebase.settleCounter →
        exec .refclkEdge s = .next
          { u with timebase := { u.timebase with settleCounter := s.timebase.settleCounter - 1 } })) ∧
    (s.timebase.selection = .external → ¬noTickDue s →
      ∃ t, exec .tick s = .next t ∧ exec .refclkEdge s = exec .refclkEdge t)

/-- REFCLK_ABSENT: the monitor is ABSENT; if it was PRESENT with EXTERNAL selected, the hub falls back to the internal reference,
with a new settle, REF_LOST for all four readers, REFERENCE_LOSSES and a re-evaluation, in SETTLING and in SETTLED alike, and a
SETTLE_COMPLETE that comes after finds the new settle far from its end (R104, R110, R111). A tick that edges have made due is taken
first (the model's choice, log entry 5). -/
def Obligations.RefclkAbsenceFallsBack : Prop :=
  ∀ s : State, s.rstLow = false →
    let gone := { s.timebase with monitor := .absent, monitorCount := 64 }
    (¬(s.timebase.monitor = .present ∧ s.timebase.selection = .external) →
      exec .refclkAbsent s = .next { s with timebase := gone }) ∧
    (s.timebase.monitor = .present → s.timebase.selection = .external → noTickDue s →
      exec .refclkAbsent s = .next (reevaluateBusy (causesFor (fun _ => true) 0x040 { s with
        timebase := settleStarted .internal gone s.settings
        counters := { s.counters with referenceLosses := s.counters.referenceLosses + 1 } }))) ∧
    (s.timebase.monitor = .present → s.timebase.selection = .external → ¬noTickDue s →
      ∃ t, exec .tick s = .next t ∧ exec .refclkAbsent s = exec .refclkAbsent t) ∧
    (s.timebase.monitor = .present → s.timebase.selection = .external → s.settings.Legal →
      ∃ t, exec .refclkAbsent s = .next t ∧ t.timebase.state = .settling ∧ exec .settleComplete t = .next t)

/-! ### BUSY -/

/-- A re-evaluation: FILL follows the fill and the marks, then the output follows the five sources, with a fresh minimum hold at an
assertion and a deassertion only once the hold has elapsed (R131, R132, R133, R136). Nothing but the busy unit changes. -/
def Obligations.ReevaluationDrivesBusy : Prop :=
  ∀ s : State,
    let fillState := if s.settings.busyHigh ≤ s.table.length then true
      else if s.table.length ≤ s.settings.busyLow then false else s.busy.fillActive
    let readers := ∃ r, (s.readers.get r).state = .attached ∧ (s.readers.get r).declaredBusy = true
    let active := fillState = true ∨ s.settings.forceBusy = true ∨ s.numbering.epochPending = true ∨
      (s.timebase.state = .settling ∧ s.settings.settleBusy = true) ∨ readers
    (active → s.busy.output = true →
      reevaluateBusy s = { s with busy := { s.busy with fillActive := fillState } }) ∧
    (active → s.busy.output = false →
      reevaluateBusy s = { s with busy :=
        { fillActive := fillState, output := true
          minimumHold := if s.settings.busyMinimum = 0 then .elapsed else .running s.settings.busyMinimum } }) ∧
    (¬active → s.busy.output = true → s.busy.minimumHold = .elapsed →
      reevaluateBusy s = { s with busy := { fillActive := fillState, output := false, minimumHold := .idle } }) ∧
    (¬active → ¬(s.busy.output = true ∧ s.busy.minimumHold = .elapsed) →
      reevaluateBusy s = { s with busy := { s.busy with fillActive := fillState } })

/-! ### The trigger bus -/

/-- A mark ends what came before, and truncates a frame in HEADER, CLASS, TAG or CHECK with one count in BAD_FRAMES; a start mark
latches the count, the quality and the two addresses (R80, R82, R86, R87). The hub holds SCL low exactly in HOLDING, where no mark can
pass (R78); a mark commanded there leaves the state as it is, and a mark keeps no gathered field, which are the model's choices (log
entries 11 and 15). -/
def Obligations.MarksOpenAndEndFrames : Prop :=
  (∀ s : State, clockHeldLow s = true ↔ s.trigger.state = .holding) ∧
    ∀ s : State, s.rstLow = false →
    let cut := s.trigger.state = .header ∨ s.trigger.state = .classByte ∨ s.trigger.state = .tag ∨ s.trigger.state = .check
    let counted := if cut then badFrameCounted s.counters else s.counters
    (s.trigger.state ≠ .holding →
      exec .startMark s = .next { s with
        trigger := { s.trigger with
          state := .address
          frame := .empty
          latchedCount := s.timebase.count
          latchedQuality := if s.timebase.state = .settled then .settled else .unsettled
          capturedAddress := s.settings.busAddress
          capturedBroadcast := s.settings.broadcast
          statusBytes := []
          response := .quiet }
        counters := counted } ∧
      exec .stopMark s = .next { s with
        trigger := { s.trigger with state := .idle, frame := .empty, statusBytes := [], response := .quiet }
        counters := counted }) ∧
    (s.trigger.state = .holding → exec .startMark s = .next s ∧ exec .stopMark s = .next s)

/-- The address byte, judged by the values captured at the start mark: the six rows of R81, with the two status bytes latched at a
read of the own address (R96). The values of the fields that no byte has given yet are the model's choice (log entry 15). -/
def Obligations.AddressByteIsJudged : Prop :=
  ∀ (byte : Byte) (s : State), s.rstLow = false → s.trigger.state = .address → frameLegal s.trigger →
    let address := byte.toNat / 2
    let read := byte.toNat % 2 = 1
    let own := address = s.trigger.capturedAddress.toNat
    let first := (if s.busy.output then 128 else 0) + (if s.numbering.epochPending then 64 else 0) +
      (if s.timebase.state = .settling then 32 else 0) + (if s.table.length = 64 then 16 else 0)
    (own → ¬read →
      exec (.addressByte byte) s = .next { s with
        trigger := { s.trigger with state := .header, frame := .empty, response := .acknowledged } }) ∧
    (own → read →
      exec (.addressByte byte) s = .next { s with
        trigger := { s.trigger with
          state := .sending, response := .acknowledged
          statusBytes := [BitVec.ofNat 8 first, BitVec.ofNat 8 s.table.length] } }) ∧
    (address = 0 → ¬read → s.trigger.capturedBroadcast = true →
      exec (.addressByte byte) s = .next { s with
        trigger := { s.trigger with
          state := .header, frame := { Frame.empty with broadcast := true }, response := .acknowledged } }) ∧
    (¬own → (address ≠ 0 ∨ read ∨ s.trigger.capturedBroadcast = false) →
      exec (.addressByte byte) s = .next { s with trigger := passive .notAcknowledged s.trigger })

/-- The header byte: a trigger header and an epoch header are acknowledged, every other one is bad (R83). That no gathered field
of a bad frame is kept is the model's choice (log entry 15). -/
def Obligations.HeaderByteIsJudged : Prop :=
  ∀ (byte : Byte) (s : State), s.rstLow = false → s.trigger.state = .header →
    let source := byte.extractLsb' 2 3
    (byte &&& 0xC3 = 0 →
      exec (.headerByte byte) s = .next { s with
        trigger := { s.trigger with
          state := .classByte, response := .acknowledged
          frame := { s.trigger.frame with kind := .trigger, source := source, tagged := byte.getLsbD 5, sum := byte } } }) ∧
    (byte &&& 0xE3 = 0x40 →
      exec (.headerByte byte) s = .next { s with
        trigger := { s.trigger with
          state := .check, response := .acknowledged
          frame := { s.trigger.frame with kind := .epoch, source := source, tagged := false, sum := byte } } }) ∧
    (byte &&& 0xC3 ≠ 0 → byte &&& 0xE3 ≠ 0x40 →
      exec (.headerByte byte) s = .next { s with
        trigger := passive .notAcknowledged s.trigger, counters := badFrameCounted s.counters })

/-- The class byte and the tag bytes: acknowledged and gathered, with the class byte bad where its low bits are not 0 (R84). A byte in
IDLE or PASSIVE is not acknowledged and changes nothing else (R86, R90). Which byte of a frame a byte is, the frame state says, whatever
its row; and in HOLDING and SENDING a byte row leaves the state as it is (the model's choices, log entry 11); nor is a gathered field of
a bad frame kept (log entry 15). A frame with the tag bit set has its two tag bytes as its tag, most significant first, and one without
has no tag, which is not a tag of 0 (R7). -/
def Obligations.ClassAndTagBytesAreGathered : Prop :=
  ∀ (byte : Byte) (s : State), s.rstLow = false →
    (∀ c ∈ [Instr.addressByte byte, .headerByte byte, .classByte byte, .tagByte byte, .triggerCheckByte byte, .epochCheckByte byte],
      exec c s = exec (.addressByte byte) s ∧
      (s.trigger.state = .idle ∨ s.trigger.state = .passive →
        exec c s = .next { s with trigger := { s.trigger with response := .notAcknowledged } }) ∧
      (s.trigger.state = .holding ∨ s.trigger.state = .sending → exec c s = .next s)) ∧
    let f := s.trigger.frame
    (s.trigger.state = .classByte → byte &&& 0x0F = 0 →
      exec (.classByte byte) s = .next { s with
        trigger := { s.trigger with
          state := if f.tagged then .tag else .check
          response := .acknowledged
          frame := { f with cls := byte.extractLsb' 4 4, sum := f.sum + byte } } }) ∧
    (s.trigger.state = .classByte → byte &&& 0x0F ≠ 0 →
      exec (.classByte byte) s = .next { s with
        trigger := passive .notAcknowledged s.trigger, counters := badFrameCounted s.counters }) ∧
    (s.trigger.state = .tag →
      exec (.tagByte byte) s = .next { s with
        trigger := { s.trigger with
          state := if f.tagBytes = [] then .tag else .check
          response := .acknowledged
          frame := { f with tagBytes := f.tagBytes ++ [byte], sum := f.sum + byte } } }) ∧
    (∀ high low : Byte, f.tagged = true → f.tagBytes = [high, low] → frameTag f = some (high ++ low)) ∧
    (f.tagged = false → frameTag f = none)

/-- The check byte of a trigger frame that is not taken at once: a bad sum, a pending epoch reset, a full table with no stretch,
and a full table with one, tested in that order (R85, R88, R91). That no gathered field of a decided frame is kept is the model's choice
(log entry 15). -/
def Obligations.TriggerCheckByteRefusesOrHolds : Prop :=
  ∀ (byte : Byte) (s : State), s.rstLow = false → s.trigger.state = .check → s.trigger.frame.kind = .trigger →
    let right := s.trigger.frame.sum + byte = 0x5A
    let refused := { passive .notAcknowledged s.trigger with gap := gapRaised s.trigger.gap }
    (¬right →
      exec (.triggerCheckByte byte) s = .next { s with
        trigger := passive .notAcknowledged s.trigger, counters := badFrameCounted s.counters }) ∧
    (right → s.numbering.epochPending = true →
      exec (.triggerCheckByte byte) s = .next { s with
        trigger := refused, counters := { s.counters with refusedEpoch := s.counters.refusedEpoch + 1 } }) ∧
    (right → s.numbering.epochPending = false → 64 ≤ s.table.length → s.settings.stretchLimit = 0 →
      exec (.triggerCheckByte byte) s = .next { s with
        trigger := refused, counters := { s.counters with refusedFull := s.counters.refusedFull + 1 } }) ∧
    (right → s.numbering.epochPending = false → 64 ≤ s.table.length → 0 < s.settings.stretchLimit →
      exec (.triggerCheckByte byte) s = .next { s with
        trigger := { s.trigger with
          state := .holding, stretchTimer := .running s.settings.stretchLimit, response := .clockHeld }
        counters := { s.counters with stretches := s.counters.stretches + 1 } })

/-- Entry, whole and in one event, at the check byte of a trigger frame that finds a free slot, and at a request of the frame that
waits in HOLDING (R12, R13, R88, R93). A HOLDING_ENTRY commanded where no frame waits or no slot is free changes nothing, and no
gathered field of the entered frame is kept, which are the model's choices (log entries 12 and 15). -/
def Obligations.EntryMakesTheRecord : Prop :=
  (∀ (byte : Byte) (s : State), s.rstLow = false → s.trigger.state = .check → s.trigger.frame.kind = .trigger →
    s.trigger.frame.sum + byte = 0x5A → s.numbering.epochPending = false → s.table.length < 64 →
    exec (.triggerCheckByte byte) s = .next (reevaluateBusy (entryResult s))) ∧
    (∀ s : State, s.rstLow = false → s.trigger.state = .holding → s.table.length < 64 →
      exec .holdingEntry s = .next (reevaluateBusy (entryResult s))) ∧
    ∀ s : State, ¬(s.trigger.state = .holding ∧ s.table.length < 64) → exec .holdingEntry s = .next s

/-- The check byte of an epoch frame: a bad sum, EPOCH_SOURCE COMMAND, and under BUS the request that merges, is applied to an empty
table, or is made pending (R85, R89, R121). That no gathered field of a decided frame is kept is the model's choice (log entry 15). -/
def Obligations.EpochCheckByteIsDecided : Prop :=
  ∀ (byte : Byte) (s : State), s.rstLow = false → s.trigger.state = .check → s.trigger.frame.kind = .epoch →
    let right := s.trigger.frame.sum + byte = 0x5A
    (¬right →
      exec (.epochCheckByte byte) s = .next { s with
        trigger := passive .notAcknowledged s.trigger, counters := badFrameCounted s.counters }) ∧
    (right → s.settings.epochSource = .command →
      exec (.epochCheckByte byte) s = .next { s with trigger := passive .notAcknowledged s.trigger }) ∧
    (right → s.settings.epochSource = .bus → s.numbering.epochPending = true →
      exec (.epochCheckByte byte) s = .next { s with trigger := passive .acknowledged s.trigger }) ∧
    (right → s.settings.epochSource = .bus → s.numbering.epochPending = false → s.table = [] →
      exec (.epochCheckByte byte) s =
        .next (reevaluateBusy (epochApplied { s with trigger := passive .acknowledged s.trigger }))) ∧
    (right → s.settings.epochSource = .bus → s.numbering.epochPending = false → s.table ≠ [] →
      exec (.epochCheckByte byte) s = .next (reevaluateBusy { s with
        trigger := passive .acknowledged s.trigger, numbering := { s.numbering with epochPending := true } }))

/-- A status read sends the latched bytes, then 0x00, and ends at a byte that the source does not acknowledge; nothing but the port
changes (R96). A STATUS_READ_BYTE commanded outside SENDING leaves the state as it is, and no latched byte is kept past the read, which
are the model's choices (log entries 11 and 15). -/
def Obligations.StatusReadSendsTheLatchedBytes : Prop :=
  (∀ s : State, s.rstLow = false → s.trigger.state = .sending →
    let byte := s.trigger.statusBytes.headD 0
    exec (.statusReadByte true) s = .next { s with
      trigger := { s.trigger with statusBytes := s.trigger.statusBytes.tail, response := .sent byte } } ∧
    exec (.statusReadByte false) s = .next { s with trigger := passive (.sent byte) s.trigger }) ∧
    ∀ (acknowledged : Bool) (s : State), s.trigger.state ≠ .sending → exec (.statusReadByte acknowledged) s = .next s

/-! ### Transactions -/

/-- TRANSACTION_OPEN latches the port header (R145), TRANSACTION_END returns the port to IDLE, and a transaction that ends before its
effect point leaves no trace (R144, R148). While RST_N is low the port stays IDLE (R156). A line that is low already does not fall, so a
port whose CS_N was low when RST_N rose waits for it to rise (R156), and one that is high already does not rise. The attention bit of the
header is set exactly when the reader's cause set and its mask share a cause (R169). That the port returns to IDLE with no latch kept
and a header of 0 is the model's choice (log entry 9). -/
def Obligations.TransactionsOpenAndEnd : Prop :=
  ∀ (r : Reader) (s : State),
    let available := (s.table.filter fun x => x.required.get r && !x.taken.get r && !x.released.get r).length
    let state : Nat := match (s.readers.get r).state with
      | .detached => 0
      | .attached => 1
      | .lapsed => 2
    let header := (if (s.readers.get r).causes &&& (s.readers.get r).settings.attnMask = 0 then 0 else 128) +
      (if s.busy.output then 64 else 0) + 16 * state + min available 15
    (s.rstLow = false → (s.ports.get r).csLow = false →
      exec (.transactionOpen r) s = .next { s with
        ports := s.ports.set r { csLow := true, phase := .command, header := BitVec.ofNat 8 header, command := none,
                                 args := [], status := none, reply := [], sent := 0 } }) ∧
    (s.rstLow = true → (s.ports.get r).csLow = false →
      exec (.transactionOpen r) s = .next { s with ports := s.ports.set r { s.ports.get r with csLow := true } }) ∧
    ((s.ports.get r).csLow = true →
      exec (.transactionEnd r) s = .next { s with ports := s.ports.set r (.idleAt false) }) ∧
    (s.ports.get r = .idleAt false →
      ∃ t, exec (.transactionOpen r) s = .next t ∧ exec (.transactionEnd r) t = .next s) ∧
    ((s.ports.get r).csLow = true → exec (.transactionOpen r) s = .next s) ∧
    ((s.ports.get r).csLow = false → exec (.transactionEnd r) s = .next s) ∧
    (attnAsserted r s = true ↔
      ∃ i, i < 9 ∧ (s.readers.get r).causes.getLsbD i = true ∧ (s.readers.get r).settings.attnMask.getLsbD i = true) ∧
    (portHeader r s = BitVec.ofNat 8 header ∧ (128 ≤ header ↔ attnAsserted r s = true))

/-- The command index: every code with as many argument bytes as the index gives it names exactly one command of the reader, whose bytes
they are, and that command leaves them in the port (R144, R146, R180). `Exactly one` is said of well-formed commands: that a SET whose
setting has a row of its own is that row's, and a known code no BAD_COMMAND, is the model's reading of the rows (log entry 3). An unknown code is answered BAD_COMMAND at its command byte, with
no argument and no reply, and changes nothing (R146, R151). -/
def Obligations.CommandBytesNameTheCommand : Prop :=
  (∀ e ∈ [((0x01 : Byte), 0), (0x02, 0), (0x03, 0), (0x10, 0), (0x11, 4), (0x12, 0), (0x13, 0), (0x20, 0), (0x21, 0), (0x22, 0),
      (0x23, 1), (0x24, 0), (0x30, 0), (0x31, 0), (0x32, 3), (0x33, 1), (0x34, 6), (0x35, 1), (0x38, 0), (0x39, 0), (0x3A, 1),
      (0x40, 2), (0x41, 0)], argumentCount e.1 = e.2) ∧
    (∀ (r : Reader) (code : Byte) (args : List Byte), args.length = argumentCount code →
      ∃ c, commandOfBytes r code args = some c ∧ c.wellFormed = true ∧ readerOf c = some r ∧ commandBytes c = code :: args) ∧
    (∀ (c : Instr) (r : Reader), readerOf c = some r → c.wellFormed = true →
      ∃ code args, commandBytes c = code :: args ∧ args.length = argumentCount code ∧ commandOfBytes r code args = some c ∧
        ∀ s : State, takesCommand r s →
          ∃ t, exec c s = .next t ∧ (t.ports.get r).command = some code ∧ (t.ports.get r).args = args) ∧
    ∀ (r : Reader) (code : Byte) (s : State), takesCommand r s →
      code.toNat ∉ [0x01, 0x02, 0x03, 0x10, 0x11, 0x12, 0x13, 0x20, 0x21, 0x22, 0x23, 0x24, 0x30, 0x31, 0x32, 0x33, 0x34,
                    0x35, 0x38, 0x39, 0x3A, 0x40, 0x41] →
      argumentCount code = 0 ∧ exec (.badCommand r code) s = .next (answered r code [] .badCommand [] s)

/-- A reader command touches no port but its own, and outside the COMMAND phase of a transaction it is ignored (R143, R144). -/
def Obligations.OnlyTheCallersPortAnswers : Prop :=
  ∀ (c : Instr) (r : Reader) (s : State), readerOf c = some r → ∃ t, exec c s = .next t ∧
    (∀ q, q ≠ r → t.ports.get q = s.ports.get q) ∧ t.rstLow = s.rstLow ∧ (¬takesCommand r s → t = s)

/-- A refused command changes nothing but its own port, and every reply has the command's fixed length, all zeros under any status
but OK (R150, R151). -/
def Obligations.RefusedCommandChangesNothing : Prop :=
  ∀ (c : Instr) (r : Reader) (s : State), readerOf c = some r → c.wellFormed = true → takesCommand r s →
    ∃ t status, exec c s = .next t ∧ (t.ports.get r).phase = .turnaround ∧ (t.ports.get r).status = some status ∧
      (t.ports.get r).reply.length = fixedReplyLength c ∧
      (status ≠ .ok → t = { s with ports := s.ports.set r (t.ports.get r) } ∧
        (t.ports.get r).reply = List.replicate (fixedReplyLength c) 0)

/-- What the port sends in the transaction of a command, in order: the header as latched at its start, 0x00 for each argument byte,
the turnaround byte 0x00, the status byte with its code, the reply, then zeros without end (R144, R150, R152). The phases follow one
another byte by byte: command and argument bytes up to TURNAROUND, then STATUS, REPLY where there are reply bytes, TRAILING (R144). That
a byte time passes in a step with no command waiting is the model's choice (log entry 10). -/
def Obligations.PortSendsStatusAndReply : Prop :=
  (∀ (c : Instr) (r : Reader) (s : State), readerOf c = some r → c.wellFormed = true → takesCommand r s →
    ∃ t status, exec c s = .next t ∧ (t.ports.get r).status = some status ∧
      let p := t.ports.get r
      let n := p.args.length
      sentByte p 0 = (s.ports.get r).header ∧ (∀ k, k ≤ n → sentByte p (1 + k) = 0) ∧
      sentByte p (2 + n) = statusByte status ∧ ∀ k, sentByte p (3 + n + k) = p.reply.getD k 0) ∧
    [StatusCode.ok, .empty, .holdFull, .notHeld, .badState, .notHolder, .tokenTaken, .badIndex, .badValue, .notDrained,
      .noReference, .badCommand].map statusByte = [0x00, 0x01, 0x02, 0x03, 0x04, 0x05, 0x06, 0x07, 0x08, 0x09, 0x0A, 0x0B] ∧
    (∀ (p : ReaderPort) (byte : Byte),
      (p.phase = .command → argumentCount byte = 0 →
        arrive p byte = { p with phase := .turnaround, command := some byte, args := [] }) ∧
      (p.phase = .command → 0 < argumentCount byte →
        arrive p byte = { p with phase := .arguments, command := some byte, args := [] }) ∧
      (∀ code, p.phase = .arguments → p.command = some code →
        arrive p byte = { p with
          phase := if p.args.length + 1 = argumentCount code then .turnaround else .arguments, args := p.args ++ [byte] }) ∧
      (p.phase ∉ [Phase.command, .arguments] → arrive p byte = p)) ∧
    (∀ (s : State) (r : Reader), byteTime s = { s with ports := (byteTime s).ports } ∧
      let p := s.ports.get r
      let q := (byteTime s).ports.get r
      (p.phase = .turnaround → q = { p with phase := .status }) ∧
      (p.phase = .status → q = { p with phase := if p.reply = [] then .trailing else .reply, sent := 0 }) ∧
      (p.phase = .reply →
        q = { p with phase := if p.sent + 1 < p.reply.length then .reply else .trailing, sent := p.sent + 1 }) ∧
      (p.phase ∈ [Phase.idle, .command, .arguments, .trailing] → q = p)) ∧
    ∀ p : ReaderPort, p.phase = .turnaround → p.status.isSome = true →
      ∀ k, sendingByte (sendByte^[k] p) = sentByte p (1 + p.args.length + k)

/-! ### Reports -/

/-- STATUS: its thirteen bytes, and no change but the answer (R142, R153). -/
def Obligations.StatusReportsTheHub : Prop :=
  ∀ (r : Reader) (s : State), takesCommand r s →
    let c := s.readers.get r
    let available := (s.table.filter fun x => x.required.get r && !x.taken.get r && !x.released.get r).length
    let state : Nat := match c.state with
      | .detached => 0
      | .attached => 1
      | .lapsed => 2
    let holder : Nat := match s.token with
      | none => 0
      | some .a => 1
      | some .b => 2
      | some .c => 3
      | some .d => 4
    let readers := allReaders.any fun q => (s.readers.get q).state == .attached && (s.readers.get q).declaredBusy
    let busy := (if s.busy.output then 1 else 0) + (if s.busy.fillActive then 2 else 0) + (if s.settings.forceBusy then 4 else 0) +
      (if s.numbering.epochPending then 8 else 0) +
      (if s.timebase.state = .settling ∧ s.settings.settleBusy = true then 16 else 0) + (if readers then 32 else 0) +
      (if c.declaredBusy then 64 else 0)
    let time := (if s.timebase.state = .settled then 1 else 0) + (if s.timebase.selection = .external then 2 else 0) +
      (if s.timebase.monitor = .present then 4 else 0)
    available ≤ 255 →
    exec (.status r) s = .next (answered r 0x01 [] .ok
      ([BitVec.ofNat 8 state, BitVec.ofNat 8 c.holdList.length, BitVec.ofNat 8 available, c.missed.extractLsb' 8 8,
        c.missed.extractLsb' 0 8, BitVec.ofNat 8 holder, BitVec.ofNat 8 busy, BitVec.ofNat 8 s.table.length,
        BitVec.ofNat 8 time, s.numbering.epoch] ++
       [s.numbering.nextNumber.extractLsb' 16 8, s.numbering.nextNumber.extractLsb' 8 8,
        s.numbering.nextNumber.extractLsb' 0 8]) s)

/-- TIME: the count, the flags, the epoch and the next event number, and no change but the answer (R113). -/
def Obligations.TimeReportsTheCount : Prop :=
  ∀ (r : Reader) (s : State), takesCommand r s →
    let n := s.timebase.count
    let flags := (if s.timebase.state = .settled then 1 else 0) + (if s.timebase.selection = .external then 2 else 0) +
      (if s.timebase.monitor = .present then 4 else 0)
    exec (.time r) s = .next (answered r 0x02 [] .ok
      [n.extractLsb' 40 8, n.extractLsb' 32 8, n.extractLsb' 24 8, n.extractLsb' 16 8, n.extractLsb' 8 8, n.extractLsb' 0 8,
       BitVec.ofNat 8 flags, s.numbering.epoch, s.numbering.nextNumber.extractLsb' 16 8,
       s.numbering.nextNumber.extractLsb' 8 8, s.numbering.nextNumber.extractLsb' 0 8] s)

/-- HELD, GET and RULE_READ return what is stored, or BAD_INDEX with zeros, and change nothing but the answer (R38, R52, R167, R182). -/
def Obligations.HeldGetAndRuleReadReport : Prop :=
  ∀ (r : Reader) (s : State), takesCommand r s →
    (∀ l, (s.readers.get r).holdList = l → l.length ≤ 4 →
      let entry := fun i : Nat => match l[i]? with
        | none => [0, 0, 0, 0]
        | some (x : Identity) => [x.epoch, x.number.extractLsb' 16 8, x.number.extractLsb' 8 8, x.number.extractLsb' 0 8]
      exec (.held r) s = .next (answered r 0x13 [] .ok
        (BitVec.ofNat 8 l.length :: (entry 0 ++ entry 1 ++ entry 2 ++ entry 3)) s)) ∧
    (∀ id x, settingOfId id = some x →
      exec (.get r id) s = .next (answered r 0x33 [id] .ok
        [(settingValue x s).extractLsb' 8 8, (settingValue x s).extractLsb' 0 8] s)) ∧
    (∀ id, settingOfId id = none → exec (.get r id) s = .next (answered r 0x33 [id] .badIndex [0, 0] s)) ∧
    (∀ i : Fin 8,
      let x := s.rules.get i
      exec (.ruleRead r (BitVec.ofNat 8 i.val)) s = .next (answered r 0x35 [BitVec.ofNat 8 i.val] .ok
        [if x.enable then 1 else 0, 0#1 ++ x.patternSource ++ x.patternClass, 0#1 ++ x.maskSource ++ x.maskClass,
         x.full.toNibble ++ x.sampled.toNibble, BitVec.ofNat 8 x.interval, BitVec.ofNat 8 x.countdown] s)) ∧
    (∀ index : Byte, 7 < index.toNat →
      exec (.ruleRead r index) s = .next (answered r 0x35 [index] .badIndex [0, 0, 0, 0, 0, 0] s))

/-- CAUSES returns the caller's cause set, whatever its mask, and empties it; no other reader's set and no counter changes, and the
line is deasserted (R172). -/
def Obligations.CausesCollectsTheSet : Prop :=
  ∀ (r : Reader) (s : State), takesCommand r s →
    let c := s.readers.get r
    ∃ t, exec (.causes r) s = .next t ∧
      t = answered r 0x03 [] .ok [(c.causes.extractLsb' 8 1).setWidth 8, c.causes.extractLsb' 0 8]
        { s with readers := s.readers.set r { c with causes := 0 } } ∧
      attnAsserted r t = false ∧ (∀ q, q ≠ r → t.readers.get q = s.readers.get q) ∧ t.counters = s.counters ∧
      (c.causes = 0 → t = answered r 0x03 [] .ok [0, 0] s)

/-! ### Taking and releasing -/

/-- TAKE: the oldest available record joins the reader's taken set, its identity the tail of the hold list, the image is returned and
TAKES counts; the timer loads where the list was empty (R16, R46, R67). Its three refusals, in the order of R46. -/
def Obligations.TakeTakesTheOldestAvailable : Prop :=
  ∀ (r : Reader) (s : State), takesCommand r s →
    let c := s.readers.get r
    let available := fun x : EventRecord => x.required.get r = true ∧ x.taken.get r = false ∧ x.released.get r = false
    let zeros := List.replicate 19 0
    (∀ before x after, s.table = before ++ x :: after → (∀ y ∈ before, ¬available y) → available x →
      c.state = .attached → c.holdList.length < c.settings.holdDepth →
      exec (.take r) s = .next (answered r 0x10 [] .ok (recordImage x) { s with
        table := before ++ { x with taken := x.taken.set r true } :: after
        readers := s.readers.set r { c with
          holdList := c.holdList ++ [x.identity]
          holdTimer := if c.holdList = [] then loaded c.settings.holdLimit [x.identity] else c.holdTimer }
        counters := { s.counters with takes := s.counters.takes.set r (s.counters.takes.get r + 1) } })) ∧
    (c.state ≠ .attached → exec (.take r) s = .next (answered r 0x10 [] .badState zeros s)) ∧
    (c.state = .attached → c.settings.holdDepth ≤ c.holdList.length →
      exec (.take r) s = .next (answered r 0x10 [] .holdFull zeros s)) ∧
    (c.state = .attached → c.holdList.length < c.settings.holdDepth → (∀ x ∈ s.table, ¬available x) →
      exec (.take r) s = .next (answered r 0x10 [] .empty zeros s))

/-- The 19 bytes of the record image, every field at its place, multi-byte values most significant byte first (R179, R181). -/
def Obligations.RecordImageLayout : Prop :=
  ∀ x : EventRecord,
    let n := x.identity.number
    let t := x.timestamp
    let tag : BitVec 16 := match x.tag with
      | none => 0
      | some v => v
    let flags := (if x.quality = .unsettled then 1 else 0) + (if x.sampled then 2 else 0) + (if x.runStart then 4 else 0) +
      (if x.roll then 8 else 0) + (if x.tag = none then 0 else 16) + (if x.forced then 32 else 0)
    let required := (if x.required.a then 1 else 0) + (if x.required.b then 2 else 0) + (if x.required.c then 4 else 0) +
      (if x.required.d then 8 else 0)
    recordImage x =
      [n.extractLsb' 16 8, n.extractLsb' 8 8, n.extractLsb' 0 8, x.identity.epoch, x.runNumber.extractLsb' 8 8,
       x.runNumber.extractLsb' 0 8, t.extractLsb' 40 8, t.extractLsb' 32 8, t.extractLsb' 24 8, t.extractLsb' 16 8,
       t.extractLsb' 8 8, t.extractLsb' 0 8, 0#1 ++ x.source ++ x.cls, BitVec.ofNat 8 flags, tag.extractLsb' 8 8,
       tag.extractLsb' 0 8, x.gap,
       match x.rule with
       | none => 0xFF
       | some i => BitVec.ofNat 8 i.val,
       BitVec.ofNat 8 required]

/-- RELEASE of a held record, anywhere in the list: the reader is done with it, the entry leaves, the timer passes to the new first
entry where the first has left, and the table retires what that completes (R17, R49, R51, R68). RELEASE_OLDEST does the same for the
first entry (R50). Their refusals: BAD_STATE, then NOT_HELD. That a pulse which still waits at the timer takes one count from the new
value is the model's choice, DEDUCED from R68's load taken first (log entry 4). -/
def Obligations.ReleaseLetsTheRecordGo : Prop :=
  ∀ (r : Reader) (e : BitVec 8) (n : BitVec 24) (s : State), takesCommand r s →
    let c := s.readers.get r
    let args := [e, n.extractLsb' 16 8, n.extractLsb' 8 8, n.extractLsb' 0 8]
    (∀ before x after first others, c.state = .attached → c.holdList = first ++ ⟨e, n⟩ :: others → (⟨e, n⟩ : Identity) ∉ first →
      s.table = before ++ x :: after → x.identity = ⟨e, n⟩ → x.taken.get r = true → (∀ y ∈ before, y.identity ≠ ⟨e, n⟩) →
      let u := cascade { s with
        table := before ++ doneBy r x :: after
        readers := s.readers.set r { c with
          holdList := first ++ others
          holdTimer := if first = [] then reloaded c.holdTimer c.settings.holdLimit others else c.holdTimer } }
      exec (.release r e n) s = .next (answered r 0x11 args .ok [] u) ∧
      (first = [] → exec (.releaseOldest r) s = .next (answered r 0x12 [] .ok [] u))) ∧
    (c.state ≠ .attached →
      exec (.release r e n) s = .next (answered r 0x11 args .badState [] s) ∧
      exec (.releaseOldest r) s = .next (answered r 0x12 [] .badState [] s)) ∧
    (c.state = .attached → (⟨e, n⟩ : Identity) ∉ c.holdList →
      exec (.release r e n) s = .next (answered r 0x11 args .notHeld [] s)) ∧
    (c.state = .attached → c.holdList = [] →
      exec (.releaseOldest r) s = .next (answered r 0x12 [] .notHeld [] s))

/-- The cascade: a head that waits stays, with everything else; a complete head retires with every complete record behind it, and
then a pending reset is applied to an empty table, a waiting frame enters, and the busy unit re-evaluates, in that order (R21, R22).
That no gathered field of the entered frame is kept is the model's choice (log entry 15). -/
def Obligations.CascadeRetiresFromTheHead : Prop :=
  (∀ s : State, (∀ x, s.table.head? = some x → x.released ≠ x.required) → cascade s = s) ∧
    ∀ (s : State) (gone rest : List EventRecord), s.table = gone ++ rest → gone ≠ [] → (∀ x ∈ gone, x.released = x.required) →
      (∀ x, rest.head? = some x → x.released ≠ x.required) →
      let t := { s with table := rest }
      let u := if s.numbering.epochPending = true ∧ rest = [] then epochApplied t else t
      (s.trigger.state ≠ .holding → cascade s = reevaluateBusy u) ∧
      (s.trigger.state = .holding → rest.length < 64 → cascade s = reevaluateBusy (entryResult u))

/-! ### Reader contexts -/

/-- ATTACH, RESUME, DETACH and DECLARE_BUSY, each from the states that may issue it and from those that may not (R53, R54, R55, R59). -/
def Obligations.AttachDetachResumeDeclare : Prop :=
  ∀ (r : Reader) (s : State), takesCommand r s →
    let c := s.readers.get r
    (c.state = .detached →
      exec (.attach r) s = .next (answered r 0x20 [] .ok []
        (reevaluateBusy { s with readers := s.readers.set r { c with state := .attached } }))) ∧
    (c.state ≠ .detached → exec (.attach r) s = .next (answered r 0x20 [] .badState [] s)) ∧
    (c.state = .lapsed →
      exec (.resume r) s = .next (answered r 0x22 [] .ok []
        (reevaluateBusy { s with readers := s.readers.set r { c with state := .attached, missed := 0 } }))) ∧
    (c.state ≠ .lapsed → exec (.resume r) s = .next (answered r 0x22 [] .badState [] s)) ∧
    (c.state ≠ .detached →
      exec (.detach r) s = .next (answered r 0x21 [] .ok [] (reevaluateBusy (cascade { s with
        table := allDoneBy r s.table, readers := s.readers.set r (leftBy .detached c) })))) ∧
    (c.state = .detached → exec (.detach r) s = .next (answered r 0x21 [] .badState [] s)) ∧
    (∀ (value : Byte) (on : Bool), value = (if on then 1 else 0) → c.declaredBusy ≠ on →
      exec (.declareBusy r value) s = .next (answered r 0x23 [value] .ok []
        (reevaluateBusy { s with readers := s.readers.set r { c with declaredBusy := on } }))) ∧
    (∀ (value : Byte) (on : Bool), value = (if on then 1 else 0) → c.declaredBusy = on →
      exec (.declareBusy r value) s = .next (answered r 0x23 [value] .ok [] s)) ∧
    (∀ value : Byte, 1 < value.toNat → exec (.declareBusy r value) s = .next (answered r 0x23 [value] .badValue [] s))

/-- READER_RESET, in every state of the reader: the mass release and its retirements, then the context at DETACHED with no cause, no
declaration and no missed record, and the token freed if the reader held it (R58). -/
def Obligations.ReaderResetClearsTheContext : Prop :=
  ∀ (r : Reader) (s : State), takesCommand r s →
    let u := cascade { s with table := allDoneBy r s.table, readers := s.readers.set r (leftBy .detached (s.readers.get r)) }
    exec (.readerReset r) s = .next (answered r 0x24 [] .ok [] (reevaluateBusy { u with
      readers := u.readers.set r { u.readers.get r with causes := 0, declaredBusy := false, missed := 0 }
      token := if s.token = some r then none else s.token }))

/-! ### The token and the settings -/

/-- CLAIM: the four rows of R158. The former holder of a claimed token gets TOKEN_LOST, and its line asserts if its mask admits it;
nothing else changes. -/
def Obligations.ClaimIsDecidedByTheHolder : Prop :=
  ∀ (r : Reader) (s : State), takesCommand r s →
    (s.token = none → exec (.claim r) s = .next (answered r 0x30 [] .ok [] { s with token := some r })) ∧
    (s.token = some r → exec (.claim r) s = .next (answered r 0x30 [] .ok [] s)) ∧
    (∀ h, s.token = some h → h ≠ r → (s.readers.get h).state = .attached →
      exec (.claim r) s = .next (answered r 0x30 [] .tokenTaken [] s)) ∧
    (∀ h, s.token = some h → h ≠ r → (s.readers.get h).state ≠ .attached →
      ∃ t, exec (.claim r) s = .next t ∧
        t = answered r 0x30 [] .ok [] { s with
          token := some r
          readers := s.readers.set h { s.readers.get h with causes := (s.readers.get h).causes ||| 0x100 } } ∧
        ((s.readers.get h).settings.attnMask.getLsbD 8 = true → attnAsserted h t = true))

/-- YIELD from the holder, in any state of the holder, frees the token; from any other reader, and while the token is free, it is
answered NOT_HOLDER. Neither sets a cause; byte 5 of STATUS then shows the token free (R159). -/
def Obligations.YieldFreesTheToken : Prop :=
  ∀ (r : Reader) (s : State), takesCommand r s →
    (s.token = some r →
      ∃ t, exec (.yield r) s = .next t ∧ t = answered r 0x31 [] .ok [] { s with token := none } ∧
        ∀ q, (statusReply q t)[5]? = some 0) ∧
    (s.token ≠ some r → exec (.yield r) s = .next (answered r 0x31 [] .notHolder [] s))

/-- The thirty-five settings, their ids, ranges and reset values, each with the field that holds it; every other id is unknown (R163,
R164, R167). -/
def Obligations.SettingIdsAndRanges : Prop :=
  (∀ e ∈ settingTable, settingOfId e.1 = some e.2.1 ∧ settingRange e.2.1 = (e.2.2.1, e.2.2.2.1) ∧
    settingValue e.2.1 State.reset = BitVec.ofNat 16 e.2.2.2.2) ∧
    (∀ id : Byte, (settingOfId id).isSome = true ↔ id ∈ settingTable.map (·.1)) ∧
    ∀ (s : State) (r : Reader),
      let flag := fun on : Bool => if on then (1 : Value16) else 0
      let number := BitVec.ofNat 16
      let t := s.settings
      let c := (s.readers.get r).settings
      [Setting.shared .busAddress, .shared .broadcast, .shared .stretchLimit, .shared .busyHigh, .shared .busyLow,
        .shared .busyMinimum, .shared .forceBusy, .shared .settleBusy, .shared .epochSource, .shared .runClass,
        .shared .runNumber, .shared .defaultSet, .shared .tickPrescale, .shared .settleLength, .shared .countersOpen].map
          (settingValue · s) =
        [number t.busAddress.toNat, flag t.broadcast, number t.stretchLimit, number t.busyHigh, number t.busyLow,
          number t.busyMinimum, flag t.forceBusy, flag t.settleBusy, flag (t.epochSource == .command), number t.runClass,
          s.numbering.runNumber,
          flag t.defaultSet.a + 2 * flag t.defaultSet.b + 4 * flag t.defaultSet.c + 8 * flag t.defaultSet.d,
          number t.tickPrescale, number t.settleLength, flag t.countersOpen] ∧
      [ReaderSetting.holdLimit, .holdClock, .holdPolicy, .holdDepth, .attnMask].map (fun x => settingValue (.ofReader r x) s) =
        [number c.holdLimit, number c.holdClock, flag (c.holdPolicy == .lapse), number c.holdDepth, number c.attnMask.toNat]

/-- SET, in the order of its checks: token (but for the caller's own ATTN_MASK), index, value; an accepted value is the one GET
returns, no other setting changes, and every other block stays, but for the re-evaluation of the busy unit after its four settings, the
divider after TICK_PRESCALE, and a pulse at the hold timer that a new HOLD_CLOCK judges anew (R75, R101, R134, R138, R151, R162, R165,
R166, R167). That the pulse still waits at the timer, and that the timer counts on from 1 where it may not fall, is the model's choice,
DEDUCED from R75 (log entry 4).
After TICK_PRESCALE the cycles that may have passed uncounted are noted, which is the model's choice (log entry 5); of TICK_PRESCALE with
a tick due, `SetsThatActAtOnce` speaks. -/
def Obligations.SetStoresTheValue : Prop :=
  ∀ (r : Reader) (id : Byte) (v : Value16) (s : State), takesCommand r s →
    let args := [id, v.extractLsb' 8 8, v.extractLsb' 0 8]
    let admitted := s.token = some r ∨ id = attnMaskId r
    let inRange := fun x => (settingRange x).1 ≤ v.toNat ∧ v.toNat ≤ (settingRange x).2 ∧
      (x = .shared .busyHigh → s.settings.busyLow < v.toNat) ∧ (x = .shared .busyLow → v.toNat < s.settings.busyHigh)
    (¬admitted → exec (.set r id v) s = .next (answered r 0x32 args .notHolder [] s)) ∧
    (admitted → settingOfId id = none → exec (.set r id v) s = .next (answered r 0x32 args .badIndex [] s)) ∧
    (∀ x, admitted → settingOfId id = some x → ¬inRange x →
      exec (.set r id v) s = .next (answered r 0x32 args .badValue [] s)) ∧
    (∀ x, admitted → settingOfId id = some x → inRange x → (x = .shared .tickPrescale → noTickDue s) →
      ∃ t, exec (.set r id v) s = .next (answered r 0x32 args .ok [] t) ∧ settingValue x t = v ∧
        (∀ y, y ≠ x → settingValue y t = settingValue y s) ∧ t.table = s.table ∧ t.rules = s.rules ∧ t.token = s.token ∧
        t.trigger = s.trigger ∧ t.counters = s.counters ∧ t.ports = s.ports ∧ t.rstLow = s.rstLow ∧ t.pending = s.pending ∧
        t.timebase = (if x = .shared .tickPrescale then dividerRestarted (2 ^ s.settings.tickPrescale) s.timebase else s.timebase) ∧
        t.numbering = { s.numbering with runNumber := if x = .shared .runNumber then v else s.numbering.runNumber } ∧
        (x ∉ [Setting.shared .busyHigh, .shared .busyLow, .shared .forceBusy, .shared .settleBusy] → t.busy = s.busy) ∧
        ∀ q, t.readers.get q = { s.readers.get q with
          settings := (t.readers.get q).settings
          holdTimer :=
            if x = .ofReader q .holdClock ∧ (s.readers.get q).holdTimer = .pulseDue ∧
                s.timebase.count.toNat % (16 * 4 ^ v.toNat) ≠ 0
            then .running 1 else (s.readers.get q).holdTimer })

/-- The SETs that have rows of their own, each with what its owner does at once: the busy unit re-evaluates for its four, the divider
restarts for TICK_PRESCALE, the run number takes the value, and a mask changes for its reader alone (R129, R134, R138, R101, R174).
A tick that edges have made due is taken before the divider restarts, and cycles that may have passed uncounted are noted (the model's
choices, log entry 5). Each of these rows is the SET of
its id, whatever the state, so that it is refused as `SetStoresTheValue` says of that id (R162, R165, R174; log entry 3). -/
def Obligations.SetsThatActAtOnce : Prop :=
  ∀ (r : Reader) (v : Value16) (s : State), takesCommand r s →
    let done := fun (id : Byte) (t : State) => answered r 0x32 [id, v.extractLsb' 8 8, v.extractLsb' 0 8] .ok [] t
    (s.token = some r →
      (1 ≤ v.toNat → v.toNat ≤ 64 → s.settings.busyLow < v.toNat →
        exec (.setBusyHigh r v) s =
          .next (done 0x04 (reevaluateBusy { s with settings := { s.settings with busyHigh := v.toNat } }))) ∧
      (v.toNat ≤ 63 → v.toNat < s.settings.busyHigh →
        exec (.setBusyLow r v) s =
          .next (done 0x05 (reevaluateBusy { s with settings := { s.settings with busyLow := v.toNat } }))) ∧
      (∀ on : Bool, v = (if on then 1 else 0) →
        exec (.setForceBusy r v) s =
          .next (done 0x07 (reevaluateBusy { s with settings := { s.settings with forceBusy := on } })) ∧
        exec (.setSettleBusy r v) s =
          .next (done 0x08 (reevaluateBusy { s with settings := { s.settings with settleBusy := on } }))) ∧
      (v.toNat ≤ 7 → noTickDue s →
        exec (.setTickPrescale r v) s = .next (done 0x0D { s with
          settings := { s.settings with tickPrescale := v.toNat }
          timebase := dividerRestarted (2 ^ s.settings.tickPrescale) s.timebase })) ∧
      (v.toNat ≤ 7 → ¬noTickDue s →
        ∃ t, exec .tick s = .next t ∧ exec (.setTickPrescale r v) s = exec (.setTickPrescale r v) t) ∧
      exec (.setRunNumber r v) s = .next (done 0x0B { s with numbering := { s.numbering with runNumber := v } })) ∧
    (∀ q, (s.token = some r ∨ q = r) → v.toNat ≤ 0x1FF →
      exec (.setAttnMask r q v) s = .next (done (attnMaskId q) { s with
        readers := s.readers.set q { s.readers.get q with
          settings := { (s.readers.get q).settings with attnMask := v.setWidth 9 } } })) ∧
    ∀ (q : Reader) (u : State),
      exec (.setBusyHigh r v) u = exec (.set r 0x04 v) u ∧ exec (.setBusyLow r v) u = exec (.set r 0x05 v) u ∧
      exec (.setForceBusy r v) u = exec (.set r 0x07 v) u ∧ exec (.setSettleBusy r v) u = exec (.set r 0x08 v) u ∧
      exec (.setRunNumber r v) u = exec (.set r 0x0B v) u ∧ exec (.setTickPrescale r v) u = exec (.set r 0x0D v) u ∧
      exec (.setAttnMask r q v) u = exec (.set r (attnMaskId q) v) u

/-! ### Routing -/

/-- A rule matches when it is on and every compared bit of source and class agrees with the pattern: a mask of no bit matches every
trigger, a full mask exactly one pair, a rule that is off none; and RULE_READ returns pattern bits under an ignored mask bit as they
were written, to be compared again if a later mask compares them (R29). -/
def Obligations.RuleMatchesComparedBits : Prop :=
  (∀ (x : RoutingRule) (source : BitVec 3) (cls : BitVec 4),
    (ruleMatches x source cls = true ↔ x.enable = true ∧
      (∀ i, i < 3 → x.maskSource.getLsbD i = true → source.getLsbD i = x.patternSource.getLsbD i) ∧
      (∀ i, i < 4 → x.maskClass.getLsbD i = true → cls.getLsbD i = x.patternClass.getLsbD i)) ∧
    (x.enable = true → x.maskSource = 0 → x.maskClass = 0 → ruleMatches x source cls = true) ∧
    (x.enable = true → x.maskSource = 7 → x.maskClass = 15 →
      (ruleMatches x source cls = true ↔ source = x.patternSource ∧ cls = x.patternClass)) ∧
    (x.enable = false → ruleMatches x source cls = false)) ∧
    ∀ (r : Reader) (i : Fin 8) (enable pattern mask sets interval : Byte) (s : State), takesCommand r s →
      enable.toNat ≤ 1 → pattern.toNat < 128 → mask.toNat < 128 → s.rules.get i = ruleOf enable pattern mask sets interval →
      exec (.ruleRead r (BitVec.ofNat 8 i.val)) s =
        .next (answered r 0x35 [BitVec.ofNat 8 i.val] .ok [enable, pattern, mask, sets, interval, interval] s)

/-- The first rule that matches, in index order, is the matching rule (R30); at an entry, from the check byte or out of HOLDING, its
countdown falls by one and reloads to the interval at 0, when the record is SAMPLED, whoever is attached and whatever the sets hold;
no other rule's countdown moves, and a record that no rule matches is not SAMPLED; with interval 1
every record is due; with interval n the due records since the rule was written are the n-th, the 2n-th and so on (R31). -/
def Obligations.SamplingFollowsTheCountdown : Prop :=
  (∀ (t : RuleTable) (source : BitVec 3) (cls : BitVec 4) (i : Fin 8),
    matchingRule t source cls = some i ↔
      ruleMatches (t.get i) source cls = true ∧ ∀ j, j < i → ruleMatches (t.get j) source cls = false) ∧
    (∀ (c : Instr) (s : State), s.rstLow = false → s.table.length < 64 →
      ((∃ byte, c = .triggerCheckByte byte ∧ s.trigger.frame.sum + byte = 0x5A) ∧ s.trigger.state = .check ∧
          s.trigger.frame.kind = .trigger ∧ s.numbering.epochPending = false) ∨
        (c = .holdingEntry ∧ s.trigger.state = .holding) →
      ∃ t, exec c s = .next t ∧
        (∀ i, matchingRule s.rules s.trigger.frame.source s.trigger.frame.cls = some i → 1 ≤ (s.rules.get i).countdown →
          let x := s.rules.get i
          t.rules.get i = advanceCountdown x ∧
          (x.countdown - 1 = 0 → t.rules.get i = { x with countdown := x.interval }) ∧
          (0 < x.countdown - 1 → t.rules.get i = { x with countdown := x.countdown - 1 }) ∧
          (x.interval = 1 → x.countdown = 1 → t.rules.get i = x) ∧
          (sampleDue x = true ↔ x.countdown - 1 = 0) ∧
          ∀ y, t.table = s.table ++ [y] → y.sampled = sampleDue x) ∧
        (∀ j, matchingRule s.rules s.trigger.frame.source s.trigger.frame.cls ≠ some j → t.rules.get j = s.rules.get j) ∧
        (∀ y, t.table = s.table ++ [y] → y.rule = none → y.sampled = false)) ∧
    ∀ (x : RoutingRule) (n k : Nat), 1 ≤ n → x.interval = n → x.countdown = n →
      (sampleDue (advanceCountdown^[k] x) = true ↔ n ∣ k + 1)

/-- RULE_WRITE replaces one rule whole, its countdown equal to the new interval, and changes nothing else; its refusals, in the order
NOT_HOLDER, BAD_INDEX, BAD_VALUE (R36, R180). -/
def Obligations.RuleWriteReplacesTheRule : Prop :=
  ∀ (r : Reader) (index enable pattern mask sets interval : Byte) (s : State), takesCommand r s →
    let args := [index, enable, pattern, mask, sets, interval]
    let run := exec (.ruleWrite r index enable pattern mask sets interval) s
    let valid := enable.toNat ≤ 1 ∧ pattern.toNat < 128 ∧ mask.toNat < 128
    let count := if interval = 0 then 256 else interval.toNat
    let written : RoutingRule :=
      { enable := enable == 1, patternSource := pattern.extractLsb' 4 3, patternClass := pattern.extractLsb' 0 4,
        maskSource := mask.extractLsb' 4 3, maskClass := mask.extractLsb' 0 4,
        full := ⟨sets.getLsbD 4, sets.getLsbD 5, sets.getLsbD 6, sets.getLsbD 7⟩,
        sampled := ⟨sets.getLsbD 0, sets.getLsbD 1, sets.getLsbD 2, sets.getLsbD 3⟩,
        interval := count, countdown := count }
    (∀ i : Fin 8, s.token = some r → index.toNat = i.val → valid →
      run = .next (answered r 0x34 args .ok [] { s with rules := s.rules.set i written })) ∧
    (s.token ≠ some r → run = .next (answered r 0x34 args .notHolder [] s)) ∧
    (s.token = some r → 7 < index.toNat → run = .next (answered r 0x34 args .badIndex [] s)) ∧
    (s.token = some r → index.toNat ≤ 7 → ¬valid → run = .next (answered r 0x34 args .badValue [] s))

/-! ### Commands that act on the hub as a whole -/

/-- The EPOCH command, in the order of R124; and the application of a reset that is pending when the table is found empty (R122),
which in any other state is no event (log entry 12). -/
def Obligations.EpochResetIsApplied : Prop :=
  (∀ (r : Reader) (s : State), takesCommand r s →
    (s.token ≠ some r → exec (.epoch r) s = .next (answered r 0x38 [] .notHolder [] s)) ∧
    (s.token = some r → s.settings.epochSource = .bus →
      exec (.epoch r) s = .next (answered r 0x38 [] .badState [] s)) ∧
    (s.token = some r → s.settings.epochSource = .command → s.table ≠ [] →
      exec (.epoch r) s = .next (answered r 0x38 [] .notDrained [] s)) ∧
    (s.token = some r → s.settings.epochSource = .command → s.table = [] →
      exec (.epoch r) s = .next (answered r 0x38 [] .ok [] (reevaluateBusy (epochApplied s))))) ∧
    (∀ s : State, s.rstLow = false → s.numbering.epochPending = true → s.table = [] →
      exec .epochReset s = .next (reevaluateBusy (epochApplied s))) ∧
    ∀ s : State, ¬(s.numbering.epochPending = true ∧ s.table = []) → exec .epochReset s = .next s

/-- CLEAR from the holder, its seven steps in order; from any other reader NOT_HOLDER (R24). That no gathered field of the frame that enters
afterwards is kept is the model's choice (log entry 15). -/
def Obligations.ClearEmptiesTheTable : Prop :=
  ∀ (r : Reader) (s : State), takesCommand r s →
    let emptied := if s.numbering.epochPending then epochApplied (tableCleared s) else tableCleared s
    let told := reevaluateBusy (causesFor
      (fun q => (s.readers.get q).state == .attached || (s.readers.get q).state == .lapsed) 0x020 emptied)
    (s.token = some r → s.trigger.state ≠ .holding → exec (.clear r) s = .next (answered r 0x39 [] .ok [] told)) ∧
    (s.token = some r → s.trigger.state = .holding →
      exec (.clear r) s = .next (answered r 0x39 [] .ok [] (reevaluateBusy (entryResult told)))) ∧
    (s.token ≠ some r → exec (.clear r) s = .next (answered r 0x39 [] .notHolder [] s))

/-- REFERENCE, in the order of R108. A tick that edges have made due is taken before the switch (the model's choice, log entry
5). -/
def Obligations.ReferenceSwitches : Prop :=
  ∀ (r : Reader) (value : Byte) (s : State), takesCommand r s →
    let run := exec (.reference r value) s
    let named := if value = 0 then ReferenceSelection.internal else .external
    (s.token ≠ some r → run = .next (answered r 0x3A [value] .notHolder [] s)) ∧
    (s.token = some r → 1 < value.toNat → run = .next (answered r 0x3A [value] .badValue [] s)) ∧
    (s.token = some r → value.toNat ≤ 1 → s.timebase.selection = named →
      run = .next (answered r 0x3A [value] .ok [] s)) ∧
    (s.token = some r → value = 1 → s.timebase.selection = .internal → s.timebase.monitor = .absent →
      run = .next (answered r 0x3A [value] .noReference [] s)) ∧
    (s.token = some r → value.toNat ≤ 1 → s.timebase.selection ≠ named →
      (value = 0 ∨ s.timebase.monitor = .present) → noTickDue s →
      run = .next (answered r 0x3A [value] .ok []
        (reevaluateBusy { s with timebase := settleStarted named s.timebase s.settings }))) ∧
    (s.token = some r → value.toNat ≤ 1 → s.timebase.selection ≠ named →
      (value = 0 ∨ s.timebase.monitor = .present) → ¬noTickDue s →
      ∃ t, exec .tick s = .next t ∧ run = exec (.reference r value) t)

/-- COUNTER: token while COUNTERS_OPEN is 0, index, form; the whole value or its low 32 bits; nothing changes but the answer. The
difference of two short reads modulo 2^32 is the true increase while that is below 2^32. After reset the counters are open (R176). The
index names the counters in the order of the counter bank's table. -/
def Obligations.CounterReadsOneCounter : Prop :=
  (∀ (r : Reader) (index form : Byte) (s : State), takesCommand r s →
    let run := exec (.counter r index form) s
    let zeros := List.replicate (if form = 1 then 5 else 4) 0
    let admitted := s.settings.countersOpen = true ∨ s.token = some r
    let n := counterValue s.counters index.toNat
    (¬admitted → run = .next (answered r 0x40 [index, form] .notHolder zeros s)) ∧
    (admitted → 15 < index.toNat → run = .next (answered r 0x40 [index, form] .badIndex zeros s)) ∧
    (admitted → index.toNat ≤ 15 → 1 < form.toNat → run = .next (answered r 0x40 [index, form] .badValue zeros s)) ∧
    (admitted → index.toNat ≤ 15 → form = 1 →
      run = .next (answered r 0x40 [index, form] .ok
        [n.extractLsb' 32 8, n.extractLsb' 24 8, n.extractLsb' 16 8, n.extractLsb' 8 8, n.extractLsb' 0 8] s)) ∧
    (admitted → index.toNat ≤ 15 → form = 0 →
      run = .next (answered r 0x40 [index, form] .ok
        [n.extractLsb' 24 8, n.extractLsb' 16 8, n.extractLsb' 8 8, n.extractLsb' 0 8] s))) ∧
    (∀ (before : BitVec 40) (k : Nat), k < 2 ^ 32 →
      ((before + BitVec.ofNat 40 k).extractLsb' 0 32 - before.extractLsb' 0 32).toNat = k) ∧
    State.reset.settings.countersOpen = true ∧
    ∀ c : Counters, (List.range 16).map (counterValue c) =
      [c.triggersAccepted, c.refusedFull, c.refusedEpoch, c.badFrames, c.stretches, c.epochChanges, c.referenceLosses,
        c.busyTicks, c.forcedReleases.a, c.forcedReleases.b, c.forcedReleases.c, c.forcedReleases.d, c.takes.a, c.takes.b,
        c.takes.c, c.takes.d]

/-- CLEAR_COUNTERS from the holder, whatever COUNTERS_OPEN holds, sets all sixteen counters to 0 and leaves the rest; with every
counter at 0 already it changes nothing; from any other reader it is answered NOT_HOLDER (R177). -/
def Obligations.ClearCountersZeroesTheBank : Prop :=
  ∀ (r : Reader) (s : State), takesCommand r s →
    (s.token = some r →
      ∃ counters : Counters, (∀ i, i < 16 → counterValue counters i = 0) ∧
        exec (.clearCounters r) s = .next (answered r 0x41 [] .ok [] { s with counters := counters })) ∧
    (s.token = some r → (∀ i, i < 16 → counterValue s.counters i = 0) →
      exec (.clearCounters r) s = .next (answered r 0x41 [] .ok [] s)) ∧
    (s.token ≠ some r → exec (.clearCounters r) s = .next (answered r 0x41 [] .notHolder [] s))

/-! ### Invariants -/

/-- The invariants below hold of the state after reset, the frame, port and reset-line invariants among them (R79, R80, R86, R144,
R156). That the captured address 0x3C is in range rests on log entry 8, what an idle port holds on log entry 9, what a port with no frame
holds on log entry 15, the model's choices, and that RST_N is high on log entry 2 (DEDUCED). -/
def Obligations.InvariantsHoldAtReset : Prop :=
  settingsLegal State.reset ∧ tableLegal State.reset ∧ identitiesConsecutive State.reset ∧ readersMatchTable State.reset ∧
    timersLegal State.reset ∧ busyLegal State.reset ∧ timebaseLegal State.reset ∧ frameLegal State.reset.trigger ∧
    portsLegal State.reset ∧ resetStands State.reset

/-- Every setting stays in its range, BUSY_LOW below BUSY_HIGH, every rule's countdown in 1 to its interval (R27, R163, R164, R165). -/
def Obligations.StepKeepsSettingsLegal : Prop :=
  ∀ s t : State, settingsLegal s → step s = .next t → settingsLegal t

/-- The table stays within 64 records, each with disjoint taken and released sets inside its required set, and its head always waits;
a pending reset and a held frame always have a table that keeps them waiting (R1, R14, R21, R94, R123). -/
def Obligations.StepKeepsTableLegal : Prop :=
  ∀ s t : State, tableLegal s → step s = .next t → tableLegal t

/-- Live records keep consecutive identities, continued by the next one (R2, R119, R120). -/
def Obligations.StepKeepsIdentitiesConsecutive : Prop :=
  ∀ s t : State, tableLegal s → identitiesConsecutive s → step s = .next t → identitiesConsecutive t

/-- Every hold list stays the records its reader has taken, in table order and at most 4, and a reader that is not ATTACHED stays done
with every record (R44, R45). -/
def Obligations.StepKeepsReadersMatchingTheTable : Prop :=
  ∀ s t : State, settingsLegal s → tableLegal s → identitiesConsecutive s → readersMatchTable s → step s = .next t →
    readersMatchTable t

/-- Every hold timer stays STOPPED exactly while its list is empty, and the stretch timer runs exactly in HOLDING (R65, R69, R91). -/
def Obligations.StepKeepsTimersLegal : Prop :=
  ∀ s t : State, settingsLegal s → timersLegal s → step s = .next t → timersLegal t

/-- BUSY stays asserted while a source is active, its timer IDLE exactly while it is deasserted, and FILL in step with the marks
(R131, R133, R135). -/
def Obligations.StepKeepsBusyLegal : Prop :=
  ∀ s t : State, settingsLegal s → busyLegal s → step s = .next t → busyLegal t

/-- A settled timebase has no cycles left to count and a settling one has, at most 65,536; EXTERNAL stays selected only while REFCLK is
present; the divider stays within one tick and the monitor count within 64 (R101, R104, R105, R106, R108, R110). That the divider may
stand at the whole tick, which is then due and waits, and that no cycle is uncounted in SETTLED or on REFCLK, are the model's choices
(log entry 5). -/
def Obligations.StepKeepsTimebaseLegal : Prop :=
  ∀ s t : State, settingsLegal s → timebaseLegal s → step s = .next t → timebaseLegal t

/-- The gathered fields of the trigger port stay those of its frame state, and the captured address one that BUS_ADDRESS can hold
(R80, R83, R84, R86, R87). That no field is kept outside a frame, and that DEVICE_RESET leaves the captured address at 0x3C, are the
model's choices (log entries 15 and 8). -/
def Obligations.StepKeepsFrameLegal : Prop :=
  ∀ s t : State, settingsLegal s → frameLegal s.trigger → step s = .next t → frameLegal t.trigger

/-- The ports stay legal, and while RST_N is low every block stands at its reset values (R79, R100, R144, R150, R156). Of those, the
minimum hold ELAPSED, the captured addresses 0x3C and 1, the idle port that keeps no latch and a header of 0, and the frame fields with no
frame in progress are the model's choices (log entries 7, 8, 9 and 15). -/
def Obligations.StepKeepsPortsAndReset : Prop :=
  ∀ s t : State, portsLegal s → resetStands s → step s = .next t → portsLegal t ∧ resetStands t

end Statements
end

