-- ==== Sys2Proof/Laws/State.lean ====
section
/-! SUPPORT. The small lemmas of the state's accessors: one per field per update, and what reading after writing gives. -/

namespace Sys2Proof.Machine

@[simp] theorem State.withPending_pending (s : State) (x : List Instr) : (s.withPending x).pending = x := rfl
@[simp] theorem State.withPending_rstLow (s : State) (x : List Instr) : (s.withPending x).rstLow = s.rstLow := rfl
@[simp] theorem State.withPending_table (s : State) (x : List Instr) : (s.withPending x).table = s.table := rfl
@[simp] theorem State.withPending_rules (s : State) (x : List Instr) : (s.withPending x).rules = s.rules := rfl
@[simp] theorem State.withPending_readers (s : State) (x : List Instr) : (s.withPending x).readers = s.readers := rfl
@[simp] theorem State.withPending_trigger (s : State) (x : List Instr) : (s.withPending x).trigger = s.trigger := rfl
@[simp] theorem State.withPending_timebase (s : State) (x : List Instr) : (s.withPending x).timebase = s.timebase := rfl
@[simp] theorem State.withPending_numbering (s : State) (x : List Instr) : (s.withPending x).numbering = s.numbering := rfl
@[simp] theorem State.withPending_busy (s : State) (x : List Instr) : (s.withPending x).busy = s.busy := rfl
@[simp] theorem State.withPending_settings (s : State) (x : List Instr) : (s.withPending x).settings = s.settings := rfl
@[simp] theorem State.withPending_token (s : State) (x : List Instr) : (s.withPending x).token = s.token := rfl
@[simp] theorem State.withPending_ports (s : State) (x : List Instr) : (s.withPending x).ports = s.ports := rfl
@[simp] theorem State.withPending_counters (s : State) (x : List Instr) : (s.withPending x).counters = s.counters := rfl

@[simp] theorem State.withRstLow_pending (s : State) (x : Bool) : (s.withRstLow x).pending = s.pending := rfl
@[simp] theorem State.withRstLow_rstLow (s : State) (x : Bool) : (s.withRstLow x).rstLow = x := rfl
@[simp] theorem State.withRstLow_table (s : State) (x : Bool) : (s.withRstLow x).table = s.table := rfl
@[simp] theorem State.withRstLow_rules (s : State) (x : Bool) : (s.withRstLow x).rules = s.rules := rfl
@[simp] theorem State.withRstLow_readers (s : State) (x : Bool) : (s.withRstLow x).readers = s.readers := rfl
@[simp] theorem State.withRstLow_trigger (s : State) (x : Bool) : (s.withRstLow x).trigger = s.trigger := rfl
@[simp] theorem State.withRstLow_timebase (s : State) (x : Bool) : (s.withRstLow x).timebase = s.timebase := rfl
@[simp] theorem State.withRstLow_numbering (s : State) (x : Bool) : (s.withRstLow x).numbering = s.numbering := rfl
@[simp] theorem State.withRstLow_busy (s : State) (x : Bool) : (s.withRstLow x).busy = s.busy := rfl
@[simp] theorem State.withRstLow_settings (s : State) (x : Bool) : (s.withRstLow x).settings = s.settings := rfl
@[simp] theorem State.withRstLow_token (s : State) (x : Bool) : (s.withRstLow x).token = s.token := rfl
@[simp] theorem State.withRstLow_ports (s : State) (x : Bool) : (s.withRstLow x).ports = s.ports := rfl
@[simp] theorem State.withRstLow_counters (s : State) (x : Bool) : (s.withRstLow x).counters = s.counters := rfl

@[simp] theorem State.withTable_pending (s : State) (x : List EventRecord) : (s.withTable x).pending = s.pending := rfl
@[simp] theorem State.withTable_rstLow (s : State) (x : List EventRecord) : (s.withTable x).rstLow = s.rstLow := rfl
@[simp] theorem State.withTable_table (s : State) (x : List EventRecord) : (s.withTable x).table = x := rfl
@[simp] theorem State.withTable_rules (s : State) (x : List EventRecord) : (s.withTable x).rules = s.rules := rfl
@[simp] theorem State.withTable_readers (s : State) (x : List EventRecord) : (s.withTable x).readers = s.readers := rfl
@[simp] theorem State.withTable_trigger (s : State) (x : List EventRecord) : (s.withTable x).trigger = s.trigger := rfl
@[simp] theorem State.withTable_timebase (s : State) (x : List EventRecord) : (s.withTable x).timebase = s.timebase := rfl
@[simp] theorem State.withTable_numbering (s : State) (x : List EventRecord) : (s.withTable x).numbering = s.numbering := rfl
@[simp] theorem State.withTable_busy (s : State) (x : List EventRecord) : (s.withTable x).busy = s.busy := rfl
@[simp] theorem State.withTable_settings (s : State) (x : List EventRecord) : (s.withTable x).settings = s.settings := rfl
@[simp] theorem State.withTable_token (s : State) (x : List EventRecord) : (s.withTable x).token = s.token := rfl
@[simp] theorem State.withTable_ports (s : State) (x : List EventRecord) : (s.withTable x).ports = s.ports := rfl
@[simp] theorem State.withTable_counters (s : State) (x : List EventRecord) : (s.withTable x).counters = s.counters := rfl

@[simp] theorem State.withRules_pending (s : State) (x : RuleTable) : (s.withRules x).pending = s.pending := rfl
@[simp] theorem State.withRules_rstLow (s : State) (x : RuleTable) : (s.withRules x).rstLow = s.rstLow := rfl
@[simp] theorem State.withRules_table (s : State) (x : RuleTable) : (s.withRules x).table = s.table := rfl
@[simp] theorem State.withRules_rules (s : State) (x : RuleTable) : (s.withRules x).rules = x := rfl
@[simp] theorem State.withRules_readers (s : State) (x : RuleTable) : (s.withRules x).readers = s.readers := rfl
@[simp] theorem State.withRules_trigger (s : State) (x : RuleTable) : (s.withRules x).trigger = s.trigger := rfl
@[simp] theorem State.withRules_timebase (s : State) (x : RuleTable) : (s.withRules x).timebase = s.timebase := rfl
@[simp] theorem State.withRules_numbering (s : State) (x : RuleTable) : (s.withRules x).numbering = s.numbering := rfl
@[simp] theorem State.withRules_busy (s : State) (x : RuleTable) : (s.withRules x).busy = s.busy := rfl
@[simp] theorem State.withRules_settings (s : State) (x : RuleTable) : (s.withRules x).settings = s.settings := rfl
@[simp] theorem State.withRules_token (s : State) (x : RuleTable) : (s.withRules x).token = s.token := rfl
@[simp] theorem State.withRules_ports (s : State) (x : RuleTable) : (s.withRules x).ports = s.ports := rfl
@[simp] theorem State.withRules_counters (s : State) (x : RuleTable) : (s.withRules x).counters = s.counters := rfl

@[simp] theorem State.withReaders_pending (s : State) (x : PerReader ReaderContext) : (s.withReaders x).pending = s.pending := rfl
@[simp] theorem State.withReaders_rstLow (s : State) (x : PerReader ReaderContext) : (s.withReaders x).rstLow = s.rstLow := rfl
@[simp] theorem State.withReaders_table (s : State) (x : PerReader ReaderContext) : (s.withReaders x).table = s.table := rfl
@[simp] theorem State.withReaders_rules (s : State) (x : PerReader ReaderContext) : (s.withReaders x).rules = s.rules := rfl
@[simp] theorem State.withReaders_readers (s : State) (x : PerReader ReaderContext) : (s.withReaders x).readers = x := rfl
@[simp] theorem State.withReaders_trigger (s : State) (x : PerReader ReaderContext) : (s.withReaders x).trigger = s.trigger := rfl
@[simp] theorem State.withReaders_timebase (s : State) (x : PerReader ReaderContext) : (s.withReaders x).timebase = s.timebase := rfl
@[simp] theorem State.withReaders_numbering (s : State) (x : PerReader ReaderContext) : (s.withReaders x).numbering = s.numbering := rfl
@[simp] theorem State.withReaders_busy (s : State) (x : PerReader ReaderContext) : (s.withReaders x).busy = s.busy := rfl
@[simp] theorem State.withReaders_settings (s : State) (x : PerReader ReaderContext) : (s.withReaders x).settings = s.settings := rfl
@[simp] theorem State.withReaders_token (s : State) (x : PerReader ReaderContext) : (s.withReaders x).token = s.token := rfl
@[simp] theorem State.withReaders_ports (s : State) (x : PerReader ReaderContext) : (s.withReaders x).ports = s.ports := rfl
@[simp] theorem State.withReaders_counters (s : State) (x : PerReader ReaderContext) : (s.withReaders x).counters = s.counters := rfl

@[simp] theorem State.withTrigger_pending (s : State) (x : TriggerPort) : (s.withTrigger x).pending = s.pending := rfl
@[simp] theorem State.withTrigger_rstLow (s : State) (x : TriggerPort) : (s.withTrigger x).rstLow = s.rstLow := rfl
@[simp] theorem State.withTrigger_table (s : State) (x : TriggerPort) : (s.withTrigger x).table = s.table := rfl
@[simp] theorem State.withTrigger_rules (s : State) (x : TriggerPort) : (s.withTrigger x).rules = s.rules := rfl
@[simp] theorem State.withTrigger_readers (s : State) (x : TriggerPort) : (s.withTrigger x).readers = s.readers := rfl
@[simp] theorem State.withTrigger_trigger (s : State) (x : TriggerPort) : (s.withTrigger x).trigger = x := rfl
@[simp] theorem State.withTrigger_timebase (s : State) (x : TriggerPort) : (s.withTrigger x).timebase = s.timebase := rfl
@[simp] theorem State.withTrigger_numbering (s : State) (x : TriggerPort) : (s.withTrigger x).numbering = s.numbering := rfl
@[simp] theorem State.withTrigger_busy (s : State) (x : TriggerPort) : (s.withTrigger x).busy = s.busy := rfl
@[simp] theorem State.withTrigger_settings (s : State) (x : TriggerPort) : (s.withTrigger x).settings = s.settings := rfl
@[simp] theorem State.withTrigger_token (s : State) (x : TriggerPort) : (s.withTrigger x).token = s.token := rfl
@[simp] theorem State.withTrigger_ports (s : State) (x : TriggerPort) : (s.withTrigger x).ports = s.ports := rfl
@[simp] theorem State.withTrigger_counters (s : State) (x : TriggerPort) : (s.withTrigger x).counters = s.counters := rfl

@[simp] theorem State.withTimebase_pending (s : State) (x : Timebase) : (s.withTimebase x).pending = s.pending := rfl
@[simp] theorem State.withTimebase_rstLow (s : State) (x : Timebase) : (s.withTimebase x).rstLow = s.rstLow := rfl
@[simp] theorem State.withTimebase_table (s : State) (x : Timebase) : (s.withTimebase x).table = s.table := rfl
@[simp] theorem State.withTimebase_rules (s : State) (x : Timebase) : (s.withTimebase x).rules = s.rules := rfl
@[simp] theorem State.withTimebase_readers (s : State) (x : Timebase) : (s.withTimebase x).readers = s.readers := rfl
@[simp] theorem State.withTimebase_trigger (s : State) (x : Timebase) : (s.withTimebase x).trigger = s.trigger := rfl
@[simp] theorem State.withTimebase_timebase (s : State) (x : Timebase) : (s.withTimebase x).timebase = x := rfl
@[simp] theorem State.withTimebase_numbering (s : State) (x : Timebase) : (s.withTimebase x).numbering = s.numbering := rfl
@[simp] theorem State.withTimebase_busy (s : State) (x : Timebase) : (s.withTimebase x).busy = s.busy := rfl
@[simp] theorem State.withTimebase_settings (s : State) (x : Timebase) : (s.withTimebase x).settings = s.settings := rfl
@[simp] theorem State.withTimebase_token (s : State) (x : Timebase) : (s.withTimebase x).token = s.token := rfl
@[simp] theorem State.withTimebase_ports (s : State) (x : Timebase) : (s.withTimebase x).ports = s.ports := rfl
@[simp] theorem State.withTimebase_counters (s : State) (x : Timebase) : (s.withTimebase x).counters = s.counters := rfl

@[simp] theorem State.withNumbering_pending (s : State) (x : Numbering) : (s.withNumbering x).pending = s.pending := rfl
@[simp] theorem State.withNumbering_rstLow (s : State) (x : Numbering) : (s.withNumbering x).rstLow = s.rstLow := rfl
@[simp] theorem State.withNumbering_table (s : State) (x : Numbering) : (s.withNumbering x).table = s.table := rfl
@[simp] theorem State.withNumbering_rules (s : State) (x : Numbering) : (s.withNumbering x).rules = s.rules := rfl
@[simp] theorem State.withNumbering_readers (s : State) (x : Numbering) : (s.withNumbering x).readers = s.readers := rfl
@[simp] theorem State.withNumbering_trigger (s : State) (x : Numbering) : (s.withNumbering x).trigger = s.trigger := rfl
@[simp] theorem State.withNumbering_timebase (s : State) (x : Numbering) : (s.withNumbering x).timebase = s.timebase := rfl
@[simp] theorem State.withNumbering_numbering (s : State) (x : Numbering) : (s.withNumbering x).numbering = x := rfl
@[simp] theorem State.withNumbering_busy (s : State) (x : Numbering) : (s.withNumbering x).busy = s.busy := rfl
@[simp] theorem State.withNumbering_settings (s : State) (x : Numbering) : (s.withNumbering x).settings = s.settings := rfl
@[simp] theorem State.withNumbering_token (s : State) (x : Numbering) : (s.withNumbering x).token = s.token := rfl
@[simp] theorem State.withNumbering_ports (s : State) (x : Numbering) : (s.withNumbering x).ports = s.ports := rfl
@[simp] theorem State.withNumbering_counters (s : State) (x : Numbering) : (s.withNumbering x).counters = s.counters := rfl

@[simp] theorem State.withBusy_pending (s : State) (x : BusyUnit) : (s.withBusy x).pending = s.pending := rfl
@[simp] theorem State.withBusy_rstLow (s : State) (x : BusyUnit) : (s.withBusy x).rstLow = s.rstLow := rfl
@[simp] theorem State.withBusy_table (s : State) (x : BusyUnit) : (s.withBusy x).table = s.table := rfl
@[simp] theorem State.withBusy_rules (s : State) (x : BusyUnit) : (s.withBusy x).rules = s.rules := rfl
@[simp] theorem State.withBusy_readers (s : State) (x : BusyUnit) : (s.withBusy x).readers = s.readers := rfl
@[simp] theorem State.withBusy_trigger (s : State) (x : BusyUnit) : (s.withBusy x).trigger = s.trigger := rfl
@[simp] theorem State.withBusy_timebase (s : State) (x : BusyUnit) : (s.withBusy x).timebase = s.timebase := rfl
@[simp] theorem State.withBusy_numbering (s : State) (x : BusyUnit) : (s.withBusy x).numbering = s.numbering := rfl
@[simp] theorem State.withBusy_busy (s : State) (x : BusyUnit) : (s.withBusy x).busy = x := rfl
@[simp] theorem State.withBusy_settings (s : State) (x : BusyUnit) : (s.withBusy x).settings = s.settings := rfl
@[simp] theorem State.withBusy_token (s : State) (x : BusyUnit) : (s.withBusy x).token = s.token := rfl
@[simp] theorem State.withBusy_ports (s : State) (x : BusyUnit) : (s.withBusy x).ports = s.ports := rfl
@[simp] theorem State.withBusy_counters (s : State) (x : BusyUnit) : (s.withBusy x).counters = s.counters := rfl

@[simp] theorem State.withSettings_pending (s : State) (x : Settings) : (s.withSettings x).pending = s.pending := rfl
@[simp] theorem State.withSettings_rstLow (s : State) (x : Settings) : (s.withSettings x).rstLow = s.rstLow := rfl
@[simp] theorem State.withSettings_table (s : State) (x : Settings) : (s.withSettings x).table = s.table := rfl
@[simp] theorem State.withSettings_rules (s : State) (x : Settings) : (s.withSettings x).rules = s.rules := rfl
@[simp] theorem State.withSettings_readers (s : State) (x : Settings) : (s.withSettings x).readers = s.readers := rfl
@[simp] theorem State.withSettings_trigger (s : State) (x : Settings) : (s.withSettings x).trigger = s.trigger := rfl
@[simp] theorem State.withSettings_timebase (s : State) (x : Settings) : (s.withSettings x).timebase = s.timebase := rfl
@[simp] theorem State.withSettings_numbering (s : State) (x : Settings) : (s.withSettings x).numbering = s.numbering := rfl
@[simp] theorem State.withSettings_busy (s : State) (x : Settings) : (s.withSettings x).busy = s.busy := rfl
@[simp] theorem State.withSettings_settings (s : State) (x : Settings) : (s.withSettings x).settings = x := rfl
@[simp] theorem State.withSettings_token (s : State) (x : Settings) : (s.withSettings x).token = s.token := rfl
@[simp] theorem State.withSettings_ports (s : State) (x : Settings) : (s.withSettings x).ports = s.ports := rfl
@[simp] theorem State.withSettings_counters (s : State) (x : Settings) : (s.withSettings x).counters = s.counters := rfl

@[simp] theorem State.withToken_pending (s : State) (x : Option Reader) : (s.withToken x).pending = s.pending := rfl
@[simp] theorem State.withToken_rstLow (s : State) (x : Option Reader) : (s.withToken x).rstLow = s.rstLow := rfl
@[simp] theorem State.withToken_table (s : State) (x : Option Reader) : (s.withToken x).table = s.table := rfl
@[simp] theorem State.withToken_rules (s : State) (x : Option Reader) : (s.withToken x).rules = s.rules := rfl
@[simp] theorem State.withToken_readers (s : State) (x : Option Reader) : (s.withToken x).readers = s.readers := rfl
@[simp] theorem State.withToken_trigger (s : State) (x : Option Reader) : (s.withToken x).trigger = s.trigger := rfl
@[simp] theorem State.withToken_timebase (s : State) (x : Option Reader) : (s.withToken x).timebase = s.timebase := rfl
@[simp] theorem State.withToken_numbering (s : State) (x : Option Reader) : (s.withToken x).numbering = s.numbering := rfl
@[simp] theorem State.withToken_busy (s : State) (x : Option Reader) : (s.withToken x).busy = s.busy := rfl
@[simp] theorem State.withToken_settings (s : State) (x : Option Reader) : (s.withToken x).settings = s.settings := rfl
@[simp] theorem State.withToken_token (s : State) (x : Option Reader) : (s.withToken x).token = x := rfl
@[simp] theorem State.withToken_ports (s : State) (x : Option Reader) : (s.withToken x).ports = s.ports := rfl
@[simp] theorem State.withToken_counters (s : State) (x : Option Reader) : (s.withToken x).counters = s.counters := rfl

@[simp] theorem State.withPorts_pending (s : State) (x : PerReader ReaderPort) : (s.withPorts x).pending = s.pending := rfl
@[simp] theorem State.withPorts_rstLow (s : State) (x : PerReader ReaderPort) : (s.withPorts x).rstLow = s.rstLow := rfl
@[simp] theorem State.withPorts_table (s : State) (x : PerReader ReaderPort) : (s.withPorts x).table = s.table := rfl
@[simp] theorem State.withPorts_rules (s : State) (x : PerReader ReaderPort) : (s.withPorts x).rules = s.rules := rfl
@[simp] theorem State.withPorts_readers (s : State) (x : PerReader ReaderPort) : (s.withPorts x).readers = s.readers := rfl
@[simp] theorem State.withPorts_trigger (s : State) (x : PerReader ReaderPort) : (s.withPorts x).trigger = s.trigger := rfl
@[simp] theorem State.withPorts_timebase (s : State) (x : PerReader ReaderPort) : (s.withPorts x).timebase = s.timebase := rfl
@[simp] theorem State.withPorts_numbering (s : State) (x : PerReader ReaderPort) : (s.withPorts x).numbering = s.numbering := rfl
@[simp] theorem State.withPorts_busy (s : State) (x : PerReader ReaderPort) : (s.withPorts x).busy = s.busy := rfl
@[simp] theorem State.withPorts_settings (s : State) (x : PerReader ReaderPort) : (s.withPorts x).settings = s.settings := rfl
@[simp] theorem State.withPorts_token (s : State) (x : PerReader ReaderPort) : (s.withPorts x).token = s.token := rfl
@[simp] theorem State.withPorts_ports (s : State) (x : PerReader ReaderPort) : (s.withPorts x).ports = x := rfl
@[simp] theorem State.withPorts_counters (s : State) (x : PerReader ReaderPort) : (s.withPorts x).counters = s.counters := rfl

@[simp] theorem State.withCounters_pending (s : State) (x : Counters) : (s.withCounters x).pending = s.pending := rfl
@[simp] theorem State.withCounters_rstLow (s : State) (x : Counters) : (s.withCounters x).rstLow = s.rstLow := rfl
@[simp] theorem State.withCounters_table (s : State) (x : Counters) : (s.withCounters x).table = s.table := rfl
@[simp] theorem State.withCounters_rules (s : State) (x : Counters) : (s.withCounters x).rules = s.rules := rfl
@[simp] theorem State.withCounters_readers (s : State) (x : Counters) : (s.withCounters x).readers = s.readers := rfl
@[simp] theorem State.withCounters_trigger (s : State) (x : Counters) : (s.withCounters x).trigger = s.trigger := rfl
@[simp] theorem State.withCounters_timebase (s : State) (x : Counters) : (s.withCounters x).timebase = s.timebase := rfl
@[simp] theorem State.withCounters_numbering (s : State) (x : Counters) : (s.withCounters x).numbering = s.numbering := rfl
@[simp] theorem State.withCounters_busy (s : State) (x : Counters) : (s.withCounters x).busy = s.busy := rfl
@[simp] theorem State.withCounters_settings (s : State) (x : Counters) : (s.withCounters x).settings = s.settings := rfl
@[simp] theorem State.withCounters_token (s : State) (x : Counters) : (s.withCounters x).token = s.token := rfl
@[simp] theorem State.withCounters_ports (s : State) (x : Counters) : (s.withCounters x).ports = s.ports := rfl
@[simp] theorem State.withCounters_counters (s : State) (x : Counters) : (s.withCounters x).counters = x := rfl

@[simp] theorem State.modifyReader_pending (s : State) (r : Reader) (f : ReaderContext → ReaderContext) :
    (s.modifyReader r f).pending = s.pending := rfl
@[simp] theorem State.modifyReader_rstLow (s : State) (r : Reader) (f : ReaderContext → ReaderContext) :
    (s.modifyReader r f).rstLow = s.rstLow := rfl
@[simp] theorem State.modifyReader_table (s : State) (r : Reader) (f : ReaderContext → ReaderContext) :
    (s.modifyReader r f).table = s.table := rfl
@[simp] theorem State.modifyReader_rules (s : State) (r : Reader) (f : ReaderContext → ReaderContext) :
    (s.modifyReader r f).rules = s.rules := rfl
@[simp] theorem State.modifyReader_trigger (s : State) (r : Reader) (f : ReaderContext → ReaderContext) :
    (s.modifyReader r f).trigger = s.trigger := rfl
@[simp] theorem State.modifyReader_timebase (s : State) (r : Reader) (f : ReaderContext → ReaderContext) :
    (s.modifyReader r f).timebase = s.timebase := rfl
@[simp] theorem State.modifyReader_numbering (s : State) (r : Reader) (f : ReaderContext → ReaderContext) :
    (s.modifyReader r f).numbering = s.numbering := rfl
@[simp] theorem State.modifyReader_busy (s : State) (r : Reader) (f : ReaderContext → ReaderContext) :
    (s.modifyReader r f).busy = s.busy := rfl
@[simp] theorem State.modifyReader_settings (s : State) (r : Reader) (f : ReaderContext → ReaderContext) :
    (s.modifyReader r f).settings = s.settings := rfl
@[simp] theorem State.modifyReader_token (s : State) (r : Reader) (f : ReaderContext → ReaderContext) :
    (s.modifyReader r f).token = s.token := rfl
@[simp] theorem State.modifyReader_ports (s : State) (r : Reader) (f : ReaderContext → ReaderContext) :
    (s.modifyReader r f).ports = s.ports := rfl
@[simp] theorem State.modifyReader_counters (s : State) (r : Reader) (f : ReaderContext → ReaderContext) :
    (s.modifyReader r f).counters = s.counters := rfl

@[simp] theorem State.modifyReader_readers (s : State) (r : Reader) (f : ReaderContext → ReaderContext) :
    (s.modifyReader r f).readers = s.readers.set r (f (s.readers.get r)) := rfl

/-! ### Reading one reader's value after an update -/

@[simp] theorem PerReader.get_set_same {α : Type} (p : PerReader α) (r : Reader) (x : α) : (p.set r x).get r = x := by
  cases r <;> rfl

@[simp] theorem PerReader.get_set_other {α : Type} (p : PerReader α) {r q : Reader} (h : q ≠ r) (x : α) :
    (p.set r x).get q = p.get q := by
  cases r <;> cases q <;> first | rfl | exact absurd rfl h

theorem PerReader.get_set {α : Type} (p : PerReader α) (r q : Reader) (x : α) :
    (p.set r x).get q = if q = r then x else p.get q := by
  cases r <;> cases q <;> rfl

@[simp] theorem PerReader.set_set {α : Type} (p : PerReader α) (r : Reader) (x y : α) :
    (p.set r x).set r y = p.set r y := by
  cases r <;> rfl

@[simp] theorem PerReader.set_get {α : Type} (p : PerReader α) (r : Reader) : p.set r (p.get r) = p := by
  cases r <;> rfl

@[simp] theorem PerReader.get_mapWith {α β : Type} (f : Reader → α → β) (p : PerReader α) (r : Reader) :
    (p.mapWith f).get r = f r (p.get r) := by
  cases r <;> rfl

@[simp] theorem PerReader.get_const {α : Type} (x : α) (r : Reader) : (PerReader.const x).get r = x := by
  cases r <;> rfl

theorem PerReader.ext_get {α : Type} {p q : PerReader α} (h : ∀ r, p.get r = q.get r) : p = q := by
  cases p; cases q
  have ha := h .a; have hb := h .b; have hc := h .c; have hd := h .d
  simp only [PerReader.get] at ha hb hc hd
  simp [ha, hb, hc, hd]

/-! ### Sets of readers -/

@[simp] theorem ReaderSet.get_ofPred (f : Reader → Bool) (r : Reader) : (ReaderSet.ofPred f).get r = f r := by
  cases r <;> rfl

@[simp] theorem ReaderSet.get_union (x y : ReaderSet) (r : Reader) : (x.union y).get r = (x.get r || y.get r) := by
  simp [ReaderSet.union]

@[simp] theorem ReaderSet.get_inter (x y : ReaderSet) (r : Reader) : (x.inter y).get r = (x.get r && y.get r) := by
  simp [ReaderSet.inter]

@[simp] theorem ReaderSet.get_none (r : Reader) : ReaderSet.none.get r = false := by
  cases r <;> rfl

@[simp] theorem ReaderSet.get_all (r : Reader) : ReaderSet.all.get r = true := by
  cases r <;> rfl

theorem ReaderSet.ofNibble_toNibble (x : ReaderSet) : ReaderSet.ofNibble x.toNibble = x := by
  obtain ⟨a, b, c, d⟩ := x
  cases a <;> cases b <;> cases c <;> cases d <;> rfl

theorem ReaderSet.toNibble_ofNibble (n : BitVec 4) : (ReaderSet.ofNibble n).toNibble = n := by
  revert n; decide

/-! ### The rule table -/

@[simp] theorem RuleTable.get_set_same (t : RuleTable) (i : Fin 8) (x : RoutingRule) : (t.set i x).get i = x := by
  fin_cases i <;> rfl

theorem RuleTable.get_set_other (t : RuleTable) {i j : Fin 8} (h : j ≠ i) (x : RoutingRule) :
    (t.set i x).get j = t.get j := by
  fin_cases i <;> fin_cases j <;> first | rfl | exact absurd rfl h

theorem RuleTable.get_set (t : RuleTable) (i j : Fin 8) (x : RoutingRule) :
    (t.set i x).get j = if j = i then x else t.get j := by
  by_cases h : j = i
  · subst h; simp
  · simp [h, RuleTable.get_set_other t h]

end Sys2Proof.Machine
end

