-- ==== Sys2Proof/Laws/Frames.lean ====
section
/-! SUPPORT. What each shared operation leaves alone: one lemma per operation and block of the state. -/

namespace Sys2Proof.Machine

/-! ### Causes -/

@[simp] theorem raiseFor_pending (who : ReaderSet) (c : Cause) (s : State) : (raiseFor who c s).pending = s.pending := rfl
@[simp] theorem raiseFor_rstLow (who : ReaderSet) (c : Cause) (s : State) : (raiseFor who c s).rstLow = s.rstLow := rfl
@[simp] theorem raiseFor_table (who : ReaderSet) (c : Cause) (s : State) : (raiseFor who c s).table = s.table := rfl
@[simp] theorem raiseFor_rules (who : ReaderSet) (c : Cause) (s : State) : (raiseFor who c s).rules = s.rules := rfl
@[simp] theorem raiseFor_trigger (who : ReaderSet) (c : Cause) (s : State) : (raiseFor who c s).trigger = s.trigger := rfl
@[simp] theorem raiseFor_timebase (who : ReaderSet) (c : Cause) (s : State) : (raiseFor who c s).timebase = s.timebase := rfl
@[simp] theorem raiseFor_numbering (who : ReaderSet) (c : Cause) (s : State) : (raiseFor who c s).numbering = s.numbering := rfl
@[simp] theorem raiseFor_busy (who : ReaderSet) (c : Cause) (s : State) : (raiseFor who c s).busy = s.busy := rfl
@[simp] theorem raiseFor_settings (who : ReaderSet) (c : Cause) (s : State) : (raiseFor who c s).settings = s.settings := rfl
@[simp] theorem raiseFor_token (who : ReaderSet) (c : Cause) (s : State) : (raiseFor who c s).token = s.token := rfl
@[simp] theorem raiseFor_ports (who : ReaderSet) (c : Cause) (s : State) : (raiseFor who c s).ports = s.ports := rfl
@[simp] theorem raiseFor_counters (who : ReaderSet) (c : Cause) (s : State) : (raiseFor who c s).counters = s.counters := rfl

@[simp] theorem raise_pending (r : Reader) (c : Cause) (s : State) : (raise r c s).pending = s.pending := rfl
@[simp] theorem raise_rstLow (r : Reader) (c : Cause) (s : State) : (raise r c s).rstLow = s.rstLow := rfl
@[simp] theorem raise_table (r : Reader) (c : Cause) (s : State) : (raise r c s).table = s.table := rfl
@[simp] theorem raise_rules (r : Reader) (c : Cause) (s : State) : (raise r c s).rules = s.rules := rfl
@[simp] theorem raise_trigger (r : Reader) (c : Cause) (s : State) : (raise r c s).trigger = s.trigger := rfl
@[simp] theorem raise_timebase (r : Reader) (c : Cause) (s : State) : (raise r c s).timebase = s.timebase := rfl
@[simp] theorem raise_numbering (r : Reader) (c : Cause) (s : State) : (raise r c s).numbering = s.numbering := rfl
@[simp] theorem raise_busy (r : Reader) (c : Cause) (s : State) : (raise r c s).busy = s.busy := rfl
@[simp] theorem raise_settings (r : Reader) (c : Cause) (s : State) : (raise r c s).settings = s.settings := rfl
@[simp] theorem raise_token (r : Reader) (c : Cause) (s : State) : (raise r c s).token = s.token := rfl
@[simp] theorem raise_ports (r : Reader) (c : Cause) (s : State) : (raise r c s).ports = s.ports := rfl
@[simp] theorem raise_counters (r : Reader) (c : Cause) (s : State) : (raise r c s).counters = s.counters := rfl

/-! ### The busy unit -/

@[simp] theorem driveBusy_pending (s : State) :
    (driveBusy s).pending = s.pending := by
  unfold driveBusy; (repeat' split) <;> rfl
@[simp] theorem driveBusy_rstLow (s : State) : (driveBusy s).rstLow = s.rstLow := by
  unfold driveBusy; (repeat' split) <;> rfl
@[simp] theorem driveBusy_table (s : State) : (driveBusy s).table = s.table := by
  unfold driveBusy; (repeat' split) <;> rfl
@[simp] theorem driveBusy_rules (s : State) : (driveBusy s).rules = s.rules := by
  unfold driveBusy; (repeat' split) <;> rfl
@[simp] theorem driveBusy_readers (s : State) :
    (driveBusy s).readers = s.readers := by
  unfold driveBusy; (repeat' split) <;> rfl
@[simp] theorem driveBusy_trigger (s : State) :
    (driveBusy s).trigger = s.trigger := by
  unfold driveBusy; (repeat' split) <;> rfl
@[simp] theorem driveBusy_timebase (s : State) :
    (driveBusy s).timebase = s.timebase := by
  unfold driveBusy; (repeat' split) <;> rfl
@[simp] theorem driveBusy_numbering (s : State) :
    (driveBusy s).numbering = s.numbering := by
  unfold driveBusy; (repeat' split) <;> rfl
@[simp] theorem driveBusy_settings (s : State) :
    (driveBusy s).settings = s.settings := by
  unfold driveBusy; (repeat' split) <;> rfl
@[simp] theorem driveBusy_token (s : State) : (driveBusy s).token = s.token := by
  unfold driveBusy; (repeat' split) <;> rfl
@[simp] theorem driveBusy_ports (s : State) : (driveBusy s).ports = s.ports := by
  unfold driveBusy; (repeat' split) <;> rfl
@[simp] theorem driveBusy_counters (s : State) :
    (driveBusy s).counters = s.counters := by
  unfold driveBusy; (repeat' split) <;> rfl

@[simp] theorem reevaluateBusy_pending (s : State) : (reevaluateBusy s).pending = s.pending := by
  simp [reevaluateBusy]
@[simp] theorem reevaluateBusy_rstLow (s : State) : (reevaluateBusy s).rstLow = s.rstLow := by
  simp [reevaluateBusy]
@[simp] theorem reevaluateBusy_table (s : State) : (reevaluateBusy s).table = s.table := by
  simp [reevaluateBusy]
@[simp] theorem reevaluateBusy_rules (s : State) : (reevaluateBusy s).rules = s.rules := by
  simp [reevaluateBusy]
@[simp] theorem reevaluateBusy_readers (s : State) : (reevaluateBusy s).readers = s.readers := by
  simp [reevaluateBusy]
@[simp] theorem reevaluateBusy_trigger (s : State) : (reevaluateBusy s).trigger = s.trigger := by
  simp [reevaluateBusy]
@[simp] theorem reevaluateBusy_timebase (s : State) : (reevaluateBusy s).timebase = s.timebase := by
  simp [reevaluateBusy]
@[simp] theorem reevaluateBusy_numbering (s : State) : (reevaluateBusy s).numbering = s.numbering := by
  simp [reevaluateBusy]
@[simp] theorem reevaluateBusy_settings (s : State) : (reevaluateBusy s).settings = s.settings := by
  simp [reevaluateBusy]
@[simp] theorem reevaluateBusy_token (s : State) : (reevaluateBusy s).token = s.token := by
  simp [reevaluateBusy]
@[simp] theorem reevaluateBusy_ports (s : State) : (reevaluateBusy s).ports = s.ports := by
  simp [reevaluateBusy]
@[simp] theorem reevaluateBusy_counters (s : State) : (reevaluateBusy s).counters = s.counters := by
  simp [reevaluateBusy]

@[simp] theorem countBusyTick_pending (s : State) :
    (countBusyTick s).pending = s.pending := by
  unfold countBusyTick; split <;> rfl
@[simp] theorem countBusyTick_rstLow (s : State) : (countBusyTick s).rstLow = s.rstLow := by
  unfold countBusyTick; split <;> rfl
@[simp] theorem countBusyTick_table (s : State) : (countBusyTick s).table = s.table := by
  unfold countBusyTick; split <;> rfl
@[simp] theorem countBusyTick_rules (s : State) : (countBusyTick s).rules = s.rules := by
  unfold countBusyTick; split <;> rfl
@[simp] theorem countBusyTick_readers (s : State) :
    (countBusyTick s).readers = s.readers := by
  unfold countBusyTick; split <;> rfl
@[simp] theorem countBusyTick_trigger (s : State) :
    (countBusyTick s).trigger = s.trigger := by
  unfold countBusyTick; split <;> rfl
@[simp] theorem countBusyTick_timebase (s : State) :
    (countBusyTick s).timebase = s.timebase := by
  unfold countBusyTick; split <;> rfl
@[simp] theorem countBusyTick_numbering (s : State) :
    (countBusyTick s).numbering = s.numbering := by
  unfold countBusyTick; split <;> rfl
@[simp] theorem countBusyTick_busy (s : State) : (countBusyTick s).busy = s.busy := by
  unfold countBusyTick; split <;> rfl
@[simp] theorem countBusyTick_settings (s : State) :
    (countBusyTick s).settings = s.settings := by
  unfold countBusyTick; split <;> rfl
@[simp] theorem countBusyTick_token (s : State) : (countBusyTick s).token = s.token := by
  unfold countBusyTick; split <;> rfl
@[simp] theorem countBusyTick_ports (s : State) : (countBusyTick s).ports = s.ports := by
  unfold countBusyTick; split <;> rfl

@[simp] theorem busyPulse_pending (s : State) :
    (busyPulse s).pending = s.pending := by
  unfold busyPulse; (repeat' split) <;> simp
@[simp] theorem busyPulse_rstLow (s : State) : (busyPulse s).rstLow = s.rstLow := by
  unfold busyPulse; (repeat' split) <;> simp
@[simp] theorem busyPulse_table (s : State) : (busyPulse s).table = s.table := by
  unfold busyPulse; (repeat' split) <;> simp
@[simp] theorem busyPulse_rules (s : State) : (busyPulse s).rules = s.rules := by
  unfold busyPulse; (repeat' split) <;> simp
@[simp] theorem busyPulse_readers (s : State) :
    (busyPulse s).readers = s.readers := by
  unfold busyPulse; (repeat' split) <;> simp
@[simp] theorem busyPulse_trigger (s : State) :
    (busyPulse s).trigger = s.trigger := by
  unfold busyPulse; (repeat' split) <;> simp
@[simp] theorem busyPulse_timebase (s : State) :
    (busyPulse s).timebase = s.timebase := by
  unfold busyPulse; (repeat' split) <;> simp
@[simp] theorem busyPulse_numbering (s : State) :
    (busyPulse s).numbering = s.numbering := by
  unfold busyPulse; (repeat' split) <;> simp
@[simp] theorem busyPulse_settings (s : State) :
    (busyPulse s).settings = s.settings := by
  unfold busyPulse; (repeat' split) <;> simp
@[simp] theorem busyPulse_token (s : State) : (busyPulse s).token = s.token := by
  unfold busyPulse; (repeat' split) <;> simp
@[simp] theorem busyPulse_ports (s : State) : (busyPulse s).ports = s.ports := by
  unfold busyPulse; (repeat' split) <;> simp

@[simp] theorem elapseMinimumHold_pending (s : State) :
    (elapseMinimumHold s).pending = s.pending := by
  unfold elapseMinimumHold; dsimp only; split <;> simp
@[simp] theorem elapseMinimumHold_rstLow (s : State) :
    (elapseMinimumHold s).rstLow = s.rstLow := by
  unfold elapseMinimumHold; dsimp only; split <;> simp
@[simp] theorem elapseMinimumHold_table (s : State) :
    (elapseMinimumHold s).table = s.table := by
  unfold elapseMinimumHold; dsimp only; split <;> simp
@[simp] theorem elapseMinimumHold_rules (s : State) :
    (elapseMinimumHold s).rules = s.rules := by
  unfold elapseMinimumHold; dsimp only; split <;> simp
@[simp] theorem elapseMinimumHold_readers (s : State) :
    (elapseMinimumHold s).readers = s.readers := by
  unfold elapseMinimumHold; dsimp only; split <;> simp
@[simp] theorem elapseMinimumHold_trigger (s : State) :
    (elapseMinimumHold s).trigger = s.trigger := by
  unfold elapseMinimumHold; dsimp only; split <;> simp
@[simp] theorem elapseMinimumHold_timebase (s : State) :
    (elapseMinimumHold s).timebase = s.timebase := by
  unfold elapseMinimumHold; dsimp only; split <;> simp
@[simp] theorem elapseMinimumHold_numbering (s : State) :
    (elapseMinimumHold s).numbering = s.numbering := by
  unfold elapseMinimumHold; dsimp only; split <;> simp
@[simp] theorem elapseMinimumHold_settings (s : State) :
    (elapseMinimumHold s).settings = s.settings := by
  unfold elapseMinimumHold; dsimp only; split <;> simp
@[simp] theorem elapseMinimumHold_token (s : State) :
    (elapseMinimumHold s).token = s.token := by
  unfold elapseMinimumHold; dsimp only; split <;> simp
@[simp] theorem elapseMinimumHold_ports (s : State) :
    (elapseMinimumHold s).ports = s.ports := by
  unfold elapseMinimumHold; dsimp only; split <;> simp

@[simp] theorem takeMinimumHoldExpiry_pending (s : State) :
    (takeMinimumHoldExpiry s).pending = s.pending := by
  unfold takeMinimumHoldExpiry; split <;> simp
@[simp] theorem takeMinimumHoldExpiry_rstLow (s : State) :
    (takeMinimumHoldExpiry s).rstLow = s.rstLow := by
  unfold takeMinimumHoldExpiry; split <;> simp
@[simp] theorem takeMinimumHoldExpiry_table (s : State) :
    (takeMinimumHoldExpiry s).table = s.table := by
  unfold takeMinimumHoldExpiry; split <;> simp
@[simp] theorem takeMinimumHoldExpiry_rules (s : State) :
    (takeMinimumHoldExpiry s).rules = s.rules := by
  unfold takeMinimumHoldExpiry; split <;> simp
@[simp] theorem takeMinimumHoldExpiry_readers (s : State) :
    (takeMinimumHoldExpiry s).readers = s.readers := by
  unfold takeMinimumHoldExpiry; split <;> simp
@[simp] theorem takeMinimumHoldExpiry_trigger (s : State) :
    (takeMinimumHoldExpiry s).trigger = s.trigger := by
  unfold takeMinimumHoldExpiry; split <;> simp
@[simp] theorem takeMinimumHoldExpiry_timebase (s : State) :
    (takeMinimumHoldExpiry s).timebase = s.timebase := by
  unfold takeMinimumHoldExpiry; split <;> simp
@[simp] theorem takeMinimumHoldExpiry_numbering (s : State) :
    (takeMinimumHoldExpiry s).numbering = s.numbering := by
  unfold takeMinimumHoldExpiry; split <;> simp
@[simp] theorem takeMinimumHoldExpiry_settings (s : State) :
    (takeMinimumHoldExpiry s).settings = s.settings := by
  unfold takeMinimumHoldExpiry; split <;> simp
@[simp] theorem takeMinimumHoldExpiry_token (s : State) :
    (takeMinimumHoldExpiry s).token = s.token := by
  unfold takeMinimumHoldExpiry; split <;> simp
@[simp] theorem takeMinimumHoldExpiry_ports (s : State) :
    (takeMinimumHoldExpiry s).ports = s.ports := by
  unfold takeMinimumHoldExpiry; split <;> simp

/-! ### The numbering unit -/

@[simp] theorem applyEpochReset_pending (s : State) : (applyEpochReset s).pending = s.pending := rfl
@[simp] theorem applyEpochReset_rstLow (s : State) : (applyEpochReset s).rstLow = s.rstLow := rfl
@[simp] theorem applyEpochReset_table (s : State) : (applyEpochReset s).table = s.table := rfl
@[simp] theorem applyEpochReset_rules (s : State) : (applyEpochReset s).rules = s.rules := rfl
@[simp] theorem applyEpochReset_trigger (s : State) : (applyEpochReset s).trigger = s.trigger := rfl
@[simp] theorem applyEpochReset_timebase (s : State) : (applyEpochReset s).timebase = s.timebase := rfl
@[simp] theorem applyEpochReset_busy (s : State) : (applyEpochReset s).busy = s.busy := rfl
@[simp] theorem applyEpochReset_settings (s : State) : (applyEpochReset s).settings = s.settings := rfl
@[simp] theorem applyEpochReset_token (s : State) : (applyEpochReset s).token = s.token := rfl
@[simp] theorem applyEpochReset_ports (s : State) : (applyEpochReset s).ports = s.ports := rfl

@[simp] theorem requestEpochReset_pending (s : State) :
    (requestEpochReset s).pending = s.pending := by
  unfold requestEpochReset; (repeat' split) <;> simp
@[simp] theorem requestEpochReset_rstLow (s : State) :
    (requestEpochReset s).rstLow = s.rstLow := by
  unfold requestEpochReset; (repeat' split) <;> simp
@[simp] theorem requestEpochReset_table (s : State) :
    (requestEpochReset s).table = s.table := by
  unfold requestEpochReset; (repeat' split) <;> simp
@[simp] theorem requestEpochReset_rules (s : State) :
    (requestEpochReset s).rules = s.rules := by
  unfold requestEpochReset; (repeat' split) <;> simp
@[simp] theorem requestEpochReset_trigger (s : State) :
    (requestEpochReset s).trigger = s.trigger := by
  unfold requestEpochReset; (repeat' split) <;> simp
@[simp] theorem requestEpochReset_timebase (s : State) :
    (requestEpochReset s).timebase = s.timebase := by
  unfold requestEpochReset; (repeat' split) <;> simp
@[simp] theorem requestEpochReset_settings (s : State) :
    (requestEpochReset s).settings = s.settings := by
  unfold requestEpochReset; (repeat' split) <;> simp
@[simp] theorem requestEpochReset_token (s : State) :
    (requestEpochReset s).token = s.token := by
  unfold requestEpochReset; (repeat' split) <;> simp
@[simp] theorem requestEpochReset_ports (s : State) :
    (requestEpochReset s).ports = s.ports := by
  unfold requestEpochReset; (repeat' split) <;> simp

/-! ### Entry -/

@[simp] theorem raiseMissed_pending (who : ReaderSet) (s : State) : (raiseMissed who s).pending = s.pending := rfl
@[simp] theorem raiseMissed_rstLow (who : ReaderSet) (s : State) : (raiseMissed who s).rstLow = s.rstLow := rfl
@[simp] theorem raiseMissed_table (who : ReaderSet) (s : State) : (raiseMissed who s).table = s.table := rfl
@[simp] theorem raiseMissed_rules (who : ReaderSet) (s : State) : (raiseMissed who s).rules = s.rules := rfl
@[simp] theorem raiseMissed_trigger (who : ReaderSet) (s : State) : (raiseMissed who s).trigger = s.trigger := rfl
@[simp] theorem raiseMissed_timebase (who : ReaderSet) (s : State) : (raiseMissed who s).timebase = s.timebase := rfl
@[simp] theorem raiseMissed_numbering (who : ReaderSet) (s : State) : (raiseMissed who s).numbering = s.numbering := rfl
@[simp] theorem raiseMissed_busy (who : ReaderSet) (s : State) : (raiseMissed who s).busy = s.busy := rfl
@[simp] theorem raiseMissed_settings (who : ReaderSet) (s : State) : (raiseMissed who s).settings = s.settings := rfl
@[simp] theorem raiseMissed_token (who : ReaderSet) (s : State) : (raiseMissed who s).token = s.token := rfl
@[simp] theorem raiseMissed_ports (who : ReaderSet) (s : State) : (raiseMissed who s).ports = s.ports := rfl
@[simp] theorem raiseMissed_counters (who : ReaderSet) (s : State) : (raiseMissed who s).counters = s.counters := rfl

@[simp] theorem raiseEntryCauses_pending (required : ReaderSet) (runStart rolled : Bool) (s : State) :
    (raiseEntryCauses required runStart rolled s).pending = s.pending := by
  unfold raiseEntryCauses; dsimp only; (repeat' split) <;> rfl
@[simp] theorem raiseEntryCauses_rstLow (required : ReaderSet) (runStart rolled : Bool) (s : State) :
    (raiseEntryCauses required runStart rolled s).rstLow = s.rstLow := by
  unfold raiseEntryCauses; dsimp only; (repeat' split) <;> rfl
@[simp] theorem raiseEntryCauses_table (required : ReaderSet) (runStart rolled : Bool) (s : State) :
    (raiseEntryCauses required runStart rolled s).table = s.table := by
  unfold raiseEntryCauses; dsimp only; (repeat' split) <;> rfl
@[simp] theorem raiseEntryCauses_rules (required : ReaderSet) (runStart rolled : Bool) (s : State) :
    (raiseEntryCauses required runStart rolled s).rules = s.rules := by
  unfold raiseEntryCauses; dsimp only; (repeat' split) <;> rfl
@[simp] theorem raiseEntryCauses_trigger (required : ReaderSet) (runStart rolled : Bool) (s : State) :
    (raiseEntryCauses required runStart rolled s).trigger = s.trigger := by
  unfold raiseEntryCauses; dsimp only; (repeat' split) <;> rfl
@[simp] theorem raiseEntryCauses_timebase (required : ReaderSet) (runStart rolled : Bool) (s : State) :
    (raiseEntryCauses required runStart rolled s).timebase = s.timebase := by
  unfold raiseEntryCauses; dsimp only; (repeat' split) <;> rfl
@[simp] theorem raiseEntryCauses_numbering (required : ReaderSet) (runStart rolled : Bool) (s : State) :
    (raiseEntryCauses required runStart rolled s).numbering = s.numbering := by
  unfold raiseEntryCauses; dsimp only; (repeat' split) <;> rfl
@[simp] theorem raiseEntryCauses_busy (required : ReaderSet) (runStart rolled : Bool) (s : State) :
    (raiseEntryCauses required runStart rolled s).busy = s.busy := by
  unfold raiseEntryCauses; dsimp only; (repeat' split) <;> rfl
@[simp] theorem raiseEntryCauses_settings (required : ReaderSet) (runStart rolled : Bool) (s : State) :
    (raiseEntryCauses required runStart rolled s).settings = s.settings := by
  unfold raiseEntryCauses; dsimp only; (repeat' split) <;> rfl
@[simp] theorem raiseEntryCauses_token (required : ReaderSet) (runStart rolled : Bool) (s : State) :
    (raiseEntryCauses required runStart rolled s).token = s.token := by
  unfold raiseEntryCauses; dsimp only; (repeat' split) <;> rfl
@[simp] theorem raiseEntryCauses_ports (required : ReaderSet) (runStart rolled : Bool) (s : State) :
    (raiseEntryCauses required runStart rolled s).ports = s.ports := by
  unfold raiseEntryCauses; dsimp only; (repeat' split) <;> rfl
@[simp] theorem raiseEntryCauses_counters (required : ReaderSet) (runStart rolled : Bool) (s : State) :
    (raiseEntryCauses required runStart rolled s).counters = s.counters := by
  unfold raiseEntryCauses; dsimp only; (repeat' split) <;> rfl

@[simp] theorem enterRecord_pending (s : State) : (enterRecord s).pending = s.pending := by
  simp [enterRecord]
@[simp] theorem enterRecord_rstLow (s : State) : (enterRecord s).rstLow = s.rstLow := by
  simp [enterRecord]
@[simp] theorem enterRecord_timebase (s : State) : (enterRecord s).timebase = s.timebase := by
  simp [enterRecord]
@[simp] theorem enterRecord_settings (s : State) : (enterRecord s).settings = s.settings := by
  simp [enterRecord]
@[simp] theorem enterRecord_token (s : State) : (enterRecord s).token = s.token := by
  simp [enterRecord]
@[simp] theorem enterRecord_ports (s : State) : (enterRecord s).ports = s.ports := by
  simp [enterRecord]

/-! ### Outcomes of a frame -/

@[simp] theorem decideFrame_pending (answer : Response) (s : State) : (decideFrame answer s).pending = s.pending := rfl
@[simp] theorem decideFrame_rstLow (answer : Response) (s : State) : (decideFrame answer s).rstLow = s.rstLow := rfl
@[simp] theorem decideFrame_table (answer : Response) (s : State) : (decideFrame answer s).table = s.table := rfl
@[simp] theorem decideFrame_rules (answer : Response) (s : State) : (decideFrame answer s).rules = s.rules := rfl
@[simp] theorem decideFrame_readers (answer : Response) (s : State) : (decideFrame answer s).readers = s.readers := rfl
@[simp] theorem decideFrame_timebase (answer : Response) (s : State) : (decideFrame answer s).timebase = s.timebase := rfl
@[simp] theorem decideFrame_numbering (answer : Response) (s : State) : (decideFrame answer s).numbering = s.numbering := rfl
@[simp] theorem decideFrame_busy (answer : Response) (s : State) : (decideFrame answer s).busy = s.busy := rfl
@[simp] theorem decideFrame_settings (answer : Response) (s : State) : (decideFrame answer s).settings = s.settings := rfl
@[simp] theorem decideFrame_token (answer : Response) (s : State) : (decideFrame answer s).token = s.token := rfl
@[simp] theorem decideFrame_ports (answer : Response) (s : State) : (decideFrame answer s).ports = s.ports := rfl
@[simp] theorem decideFrame_counters (answer : Response) (s : State) : (decideFrame answer s).counters = s.counters := rfl

@[simp] theorem badFrame_pending (s : State) : (badFrame s).pending = s.pending := rfl
@[simp] theorem badFrame_rstLow (s : State) : (badFrame s).rstLow = s.rstLow := rfl
@[simp] theorem badFrame_table (s : State) : (badFrame s).table = s.table := rfl
@[simp] theorem badFrame_rules (s : State) : (badFrame s).rules = s.rules := rfl
@[simp] theorem badFrame_readers (s : State) : (badFrame s).readers = s.readers := rfl
@[simp] theorem badFrame_timebase (s : State) : (badFrame s).timebase = s.timebase := rfl
@[simp] theorem badFrame_numbering (s : State) : (badFrame s).numbering = s.numbering := rfl
@[simp] theorem badFrame_busy (s : State) : (badFrame s).busy = s.busy := rfl
@[simp] theorem badFrame_settings (s : State) : (badFrame s).settings = s.settings := rfl
@[simp] theorem badFrame_token (s : State) : (badFrame s).token = s.token := rfl
@[simp] theorem badFrame_ports (s : State) : (badFrame s).ports = s.ports := rfl

@[simp] theorem raiseGap_pending (s : State) : (raiseGap s).pending = s.pending := rfl
@[simp] theorem raiseGap_rstLow (s : State) : (raiseGap s).rstLow = s.rstLow := rfl
@[simp] theorem raiseGap_table (s : State) : (raiseGap s).table = s.table := rfl
@[simp] theorem raiseGap_rules (s : State) : (raiseGap s).rules = s.rules := rfl
@[simp] theorem raiseGap_readers (s : State) : (raiseGap s).readers = s.readers := rfl
@[simp] theorem raiseGap_timebase (s : State) : (raiseGap s).timebase = s.timebase := rfl
@[simp] theorem raiseGap_numbering (s : State) : (raiseGap s).numbering = s.numbering := rfl
@[simp] theorem raiseGap_busy (s : State) : (raiseGap s).busy = s.busy := rfl
@[simp] theorem raiseGap_settings (s : State) : (raiseGap s).settings = s.settings := rfl
@[simp] theorem raiseGap_token (s : State) : (raiseGap s).token = s.token := rfl
@[simp] theorem raiseGap_ports (s : State) : (raiseGap s).ports = s.ports := rfl
@[simp] theorem raiseGap_counters (s : State) : (raiseGap s).counters = s.counters := rfl

@[simp] theorem refuseFull_pending (s : State) : (refuseFull s).pending = s.pending := rfl
@[simp] theorem refuseFull_rstLow (s : State) : (refuseFull s).rstLow = s.rstLow := rfl
@[simp] theorem refuseFull_table (s : State) : (refuseFull s).table = s.table := rfl
@[simp] theorem refuseFull_rules (s : State) : (refuseFull s).rules = s.rules := rfl
@[simp] theorem refuseFull_readers (s : State) : (refuseFull s).readers = s.readers := rfl
@[simp] theorem refuseFull_timebase (s : State) : (refuseFull s).timebase = s.timebase := rfl
@[simp] theorem refuseFull_numbering (s : State) : (refuseFull s).numbering = s.numbering := rfl
@[simp] theorem refuseFull_busy (s : State) : (refuseFull s).busy = s.busy := rfl
@[simp] theorem refuseFull_settings (s : State) : (refuseFull s).settings = s.settings := rfl
@[simp] theorem refuseFull_token (s : State) : (refuseFull s).token = s.token := rfl
@[simp] theorem refuseFull_ports (s : State) : (refuseFull s).ports = s.ports := rfl

@[simp] theorem refuseEpoch_pending (s : State) : (refuseEpoch s).pending = s.pending := rfl
@[simp] theorem refuseEpoch_rstLow (s : State) : (refuseEpoch s).rstLow = s.rstLow := rfl
@[simp] theorem refuseEpoch_table (s : State) : (refuseEpoch s).table = s.table := rfl
@[simp] theorem refuseEpoch_rules (s : State) : (refuseEpoch s).rules = s.rules := rfl
@[simp] theorem refuseEpoch_readers (s : State) : (refuseEpoch s).readers = s.readers := rfl
@[simp] theorem refuseEpoch_timebase (s : State) : (refuseEpoch s).timebase = s.timebase := rfl
@[simp] theorem refuseEpoch_numbering (s : State) : (refuseEpoch s).numbering = s.numbering := rfl
@[simp] theorem refuseEpoch_busy (s : State) : (refuseEpoch s).busy = s.busy := rfl
@[simp] theorem refuseEpoch_settings (s : State) : (refuseEpoch s).settings = s.settings := rfl
@[simp] theorem refuseEpoch_token (s : State) : (refuseEpoch s).token = s.token := rfl
@[simp] theorem refuseEpoch_ports (s : State) : (refuseEpoch s).ports = s.ports := rfl

@[simp] theorem holdFrame_pending (s : State) : (holdFrame s).pending = s.pending := rfl
@[simp] theorem holdFrame_rstLow (s : State) : (holdFrame s).rstLow = s.rstLow := rfl
@[simp] theorem holdFrame_table (s : State) : (holdFrame s).table = s.table := rfl
@[simp] theorem holdFrame_rules (s : State) : (holdFrame s).rules = s.rules := rfl
@[simp] theorem holdFrame_readers (s : State) : (holdFrame s).readers = s.readers := rfl
@[simp] theorem holdFrame_timebase (s : State) : (holdFrame s).timebase = s.timebase := rfl
@[simp] theorem holdFrame_numbering (s : State) : (holdFrame s).numbering = s.numbering := rfl
@[simp] theorem holdFrame_busy (s : State) : (holdFrame s).busy = s.busy := rfl
@[simp] theorem holdFrame_settings (s : State) : (holdFrame s).settings = s.settings := rfl
@[simp] theorem holdFrame_token (s : State) : (holdFrame s).token = s.token := rfl
@[simp] theorem holdFrame_ports (s : State) : (holdFrame s).ports = s.ports := rfl

@[simp] theorem acceptFrame_pending (s : State) : (acceptFrame s).pending = s.pending := by
  simp [acceptFrame]
@[simp] theorem acceptFrame_rstLow (s : State) : (acceptFrame s).rstLow = s.rstLow := by
  simp [acceptFrame]
@[simp] theorem acceptFrame_timebase (s : State) : (acceptFrame s).timebase = s.timebase := by
  simp [acceptFrame]
@[simp] theorem acceptFrame_settings (s : State) : (acceptFrame s).settings = s.settings := by
  simp [acceptFrame]
@[simp] theorem acceptFrame_token (s : State) : (acceptFrame s).token = s.token := by
  simp [acceptFrame]
@[simp] theorem acceptFrame_ports (s : State) : (acceptFrame s).ports = s.ports := by
  simp [acceptFrame]

@[simp] theorem retryHeldFrame_pending (s : State) :
    (retryHeldFrame s).pending = s.pending := by
  unfold retryHeldFrame; split <;> simp
@[simp] theorem retryHeldFrame_rstLow (s : State) :
    (retryHeldFrame s).rstLow = s.rstLow := by
  unfold retryHeldFrame; split <;> simp
@[simp] theorem retryHeldFrame_timebase (s : State) :
    (retryHeldFrame s).timebase = s.timebase := by
  unfold retryHeldFrame; split <;> simp
@[simp] theorem retryHeldFrame_settings (s : State) :
    (retryHeldFrame s).settings = s.settings := by
  unfold retryHeldFrame; split <;> simp
@[simp] theorem retryHeldFrame_token (s : State) :
    (retryHeldFrame s).token = s.token := by
  unfold retryHeldFrame; split <;> simp
@[simp] theorem retryHeldFrame_ports (s : State) :
    (retryHeldFrame s).ports = s.ports := by
  unfold retryHeldFrame; split <;> simp

/-! ### Retirement and releases -/

@[simp] theorem finishCascade_pending (s : State) :
    (finishCascade s).pending = s.pending := by
  unfold finishCascade; dsimp only; split <;> simp
@[simp] theorem finishCascade_rstLow (s : State) :
    (finishCascade s).rstLow = s.rstLow := by
  unfold finishCascade; dsimp only; split <;> simp
@[simp] theorem finishCascade_timebase (s : State) :
    (finishCascade s).timebase = s.timebase := by
  unfold finishCascade; dsimp only; split <;> simp
@[simp] theorem finishCascade_settings (s : State) :
    (finishCascade s).settings = s.settings := by
  unfold finishCascade; dsimp only; split <;> simp
@[simp] theorem finishCascade_token (s : State) :
    (finishCascade s).token = s.token := by
  unfold finishCascade; dsimp only; split <;> simp
@[simp] theorem finishCascade_ports (s : State) :
    (finishCascade s).ports = s.ports := by
  unfold finishCascade; dsimp only; split <;> simp

@[simp] theorem cascade_pending (s : State) : (cascade s).pending = s.pending := by
  unfold cascade; dsimp only; split <;> simp
@[simp] theorem cascade_rstLow (s : State) : (cascade s).rstLow = s.rstLow := by
  unfold cascade; dsimp only; split <;> simp
@[simp] theorem cascade_timebase (s : State) :
    (cascade s).timebase = s.timebase := by
  unfold cascade; dsimp only; split <;> simp
@[simp] theorem cascade_settings (s : State) :
    (cascade s).settings = s.settings := by
  unfold cascade; dsimp only; split <;> simp
@[simp] theorem cascade_token (s : State) : (cascade s).token = s.token := by
  unfold cascade; dsimp only; split <;> simp
@[simp] theorem cascade_ports (s : State) : (cascade s).ports = s.ports := by
  unfold cascade; dsimp only; split <;> simp

@[simp] theorem releaseEntry_pending (r : Reader) (id : Identity) (s : State) :
    (releaseEntry r id s).pending = s.pending := by
  simp [releaseEntry]
@[simp] theorem releaseEntry_rstLow (r : Reader) (id : Identity) (s : State) :
    (releaseEntry r id s).rstLow = s.rstLow := by
  simp [releaseEntry]
@[simp] theorem releaseEntry_timebase (r : Reader) (id : Identity) (s : State) :
    (releaseEntry r id s).timebase = s.timebase := by
  simp [releaseEntry]
@[simp] theorem releaseEntry_settings (r : Reader) (id : Identity) (s : State) :
    (releaseEntry r id s).settings = s.settings := by
  simp [releaseEntry]
@[simp] theorem releaseEntry_token (r : Reader) (id : Identity) (s : State) :
    (releaseEntry r id s).token = s.token := by
  simp [releaseEntry]
@[simp] theorem releaseEntry_ports (r : Reader) (id : Identity) (s : State) :
    (releaseEntry r id s).ports = s.ports := by
  simp [releaseEntry]

@[simp] theorem massRelease_pending (r : Reader) (x : ReaderState) (s : State) : (massRelease r x s).pending = s.pending := rfl
@[simp] theorem massRelease_rstLow (r : Reader) (x : ReaderState) (s : State) : (massRelease r x s).rstLow = s.rstLow := rfl
@[simp] theorem massRelease_rules (r : Reader) (x : ReaderState) (s : State) : (massRelease r x s).rules = s.rules := rfl
@[simp] theorem massRelease_trigger (r : Reader) (x : ReaderState) (s : State) : (massRelease r x s).trigger = s.trigger := rfl
@[simp] theorem massRelease_timebase (r : Reader) (x : ReaderState) (s : State) : (massRelease r x s).timebase = s.timebase := rfl
@[simp] theorem massRelease_numbering (r : Reader) (x : ReaderState) (s : State) :
    (massRelease r x s).numbering = s.numbering := rfl
@[simp] theorem massRelease_busy (r : Reader) (x : ReaderState) (s : State) : (massRelease r x s).busy = s.busy := rfl
@[simp] theorem massRelease_settings (r : Reader) (x : ReaderState) (s : State) : (massRelease r x s).settings = s.settings := rfl
@[simp] theorem massRelease_token (r : Reader) (x : ReaderState) (s : State) : (massRelease r x s).token = s.token := rfl
@[simp] theorem massRelease_ports (r : Reader) (x : ReaderState) (s : State) : (massRelease r x s).ports = s.ports := rfl
@[simp] theorem massRelease_counters (r : Reader) (x : ReaderState) (s : State) : (massRelease r x s).counters = s.counters := rfl

/-! ### Hold expiry -/

@[simp] theorem countForced_pending (r : Reader) (n : Nat) (s : State) : (countForced r n s).pending = s.pending := rfl
@[simp] theorem countForced_rstLow (r : Reader) (n : Nat) (s : State) : (countForced r n s).rstLow = s.rstLow := rfl
@[simp] theorem countForced_table (r : Reader) (n : Nat) (s : State) : (countForced r n s).table = s.table := rfl
@[simp] theorem countForced_rules (r : Reader) (n : Nat) (s : State) : (countForced r n s).rules = s.rules := rfl
@[simp] theorem countForced_readers (r : Reader) (n : Nat) (s : State) : (countForced r n s).readers = s.readers := rfl
@[simp] theorem countForced_trigger (r : Reader) (n : Nat) (s : State) : (countForced r n s).trigger = s.trigger := rfl
@[simp] theorem countForced_timebase (r : Reader) (n : Nat) (s : State) : (countForced r n s).timebase = s.timebase := rfl
@[simp] theorem countForced_numbering (r : Reader) (n : Nat) (s : State) : (countForced r n s).numbering = s.numbering := rfl
@[simp] theorem countForced_busy (r : Reader) (n : Nat) (s : State) : (countForced r n s).busy = s.busy := rfl
@[simp] theorem countForced_settings (r : Reader) (n : Nat) (s : State) : (countForced r n s).settings = s.settings := rfl
@[simp] theorem countForced_token (r : Reader) (n : Nat) (s : State) : (countForced r n s).token = s.token := rfl
@[simp] theorem countForced_ports (r : Reader) (n : Nat) (s : State) : (countForced r n s).ports = s.ports := rfl

@[simp] theorem expireForce_pending (r : Reader) (s : State) :
    (expireForce r s).pending = s.pending := by
  unfold expireForce; split <;> simp
@[simp] theorem expireForce_rstLow (r : Reader) (s : State) :
    (expireForce r s).rstLow = s.rstLow := by
  unfold expireForce; split <;> simp
@[simp] theorem expireForce_timebase (r : Reader) (s : State) :
    (expireForce r s).timebase = s.timebase := by
  unfold expireForce; split <;> simp
@[simp] theorem expireForce_settings (r : Reader) (s : State) :
    (expireForce r s).settings = s.settings := by
  unfold expireForce; split <;> simp
@[simp] theorem expireForce_token (r : Reader) (s : State) :
    (expireForce r s).token = s.token := by
  unfold expireForce; split <;> simp
@[simp] theorem expireForce_ports (r : Reader) (s : State) :
    (expireForce r s).ports = s.ports := by
  unfold expireForce; split <;> simp

@[simp] theorem expireLapse_pending (r : Reader) (s : State) : (expireLapse r s).pending = s.pending := by
  simp [expireLapse]
@[simp] theorem expireLapse_rstLow (r : Reader) (s : State) : (expireLapse r s).rstLow = s.rstLow := by
  simp [expireLapse]
@[simp] theorem expireLapse_timebase (r : Reader) (s : State) : (expireLapse r s).timebase = s.timebase := by
  simp [expireLapse]
@[simp] theorem expireLapse_settings (r : Reader) (s : State) : (expireLapse r s).settings = s.settings := by
  simp [expireLapse]
@[simp] theorem expireLapse_token (r : Reader) (s : State) : (expireLapse r s).token = s.token := by
  simp [expireLapse]
@[simp] theorem expireLapse_ports (r : Reader) (s : State) : (expireLapse r s).ports = s.ports := by
  simp [expireLapse]

@[simp] theorem takeHoldExpiry_pending (r : Reader) (s : State) :
    (takeHoldExpiry r s).pending = s.pending := by
  unfold takeHoldExpiry; (repeat' split) <;> simp
@[simp] theorem takeHoldExpiry_rstLow (r : Reader) (s : State) :
    (takeHoldExpiry r s).rstLow = s.rstLow := by
  unfold takeHoldExpiry; (repeat' split) <;> simp
@[simp] theorem takeHoldExpiry_timebase (r : Reader) (s : State) :
    (takeHoldExpiry r s).timebase = s.timebase := by
  unfold takeHoldExpiry; (repeat' split) <;> simp
@[simp] theorem takeHoldExpiry_settings (r : Reader) (s : State) :
    (takeHoldExpiry r s).settings = s.settings := by
  unfold takeHoldExpiry; (repeat' split) <;> simp
@[simp] theorem takeHoldExpiry_token (r : Reader) (s : State) :
    (takeHoldExpiry r s).token = s.token := by
  unfold takeHoldExpiry; (repeat' split) <;> simp
@[simp] theorem takeHoldExpiry_ports (r : Reader) (s : State) :
    (takeHoldExpiry r s).ports = s.ports := by
  unfold takeHoldExpiry; (repeat' split) <;> simp

@[simp] theorem takeStretchExpiry_pending (s : State) :
    (takeStretchExpiry s).pending = s.pending := by
  unfold takeStretchExpiry; split <;> simp
@[simp] theorem takeStretchExpiry_rstLow (s : State) :
    (takeStretchExpiry s).rstLow = s.rstLow := by
  unfold takeStretchExpiry; split <;> simp
@[simp] theorem takeStretchExpiry_table (s : State) :
    (takeStretchExpiry s).table = s.table := by
  unfold takeStretchExpiry; split <;> simp
@[simp] theorem takeStretchExpiry_rules (s : State) :
    (takeStretchExpiry s).rules = s.rules := by
  unfold takeStretchExpiry; split <;> simp
@[simp] theorem takeStretchExpiry_readers (s : State) :
    (takeStretchExpiry s).readers = s.readers := by
  unfold takeStretchExpiry; split <;> simp
@[simp] theorem takeStretchExpiry_timebase (s : State) :
    (takeStretchExpiry s).timebase = s.timebase := by
  unfold takeStretchExpiry; split <;> simp
@[simp] theorem takeStretchExpiry_numbering (s : State) :
    (takeStretchExpiry s).numbering = s.numbering := by
  unfold takeStretchExpiry; split <;> simp
@[simp] theorem takeStretchExpiry_busy (s : State) :
    (takeStretchExpiry s).busy = s.busy := by
  unfold takeStretchExpiry; split <;> simp
@[simp] theorem takeStretchExpiry_settings (s : State) :
    (takeStretchExpiry s).settings = s.settings := by
  unfold takeStretchExpiry; split <;> simp
@[simp] theorem takeStretchExpiry_token (s : State) :
    (takeStretchExpiry s).token = s.token := by
  unfold takeStretchExpiry; split <;> simp
@[simp] theorem takeStretchExpiry_ports (s : State) :
    (takeStretchExpiry s).ports = s.ports := by
  unfold takeStretchExpiry; split <;> simp

/-! ### The timebase -/

@[simp] theorem completeSettle_pending (s : State) : (completeSettle s).pending = s.pending := by
  simp [completeSettle]
@[simp] theorem completeSettle_rstLow (s : State) : (completeSettle s).rstLow = s.rstLow := by
  simp [completeSettle]
@[simp] theorem completeSettle_table (s : State) : (completeSettle s).table = s.table := by
  simp [completeSettle]
@[simp] theorem completeSettle_rules (s : State) : (completeSettle s).rules = s.rules := by
  simp [completeSettle]
@[simp] theorem completeSettle_trigger (s : State) : (completeSettle s).trigger = s.trigger := by
  simp [completeSettle]
@[simp] theorem completeSettle_numbering (s : State) : (completeSettle s).numbering = s.numbering := by
  simp [completeSettle]
@[simp] theorem completeSettle_settings (s : State) : (completeSettle s).settings = s.settings := by
  simp [completeSettle]
@[simp] theorem completeSettle_token (s : State) : (completeSettle s).token = s.token := by
  simp [completeSettle]
@[simp] theorem completeSettle_ports (s : State) : (completeSettle s).ports = s.ports := by
  simp [completeSettle]
@[simp] theorem completeSettle_counters (s : State) : (completeSettle s).counters = s.counters := by
  simp [completeSettle]

@[simp] theorem settleEdges_pending (n : Nat) (s : State) :
    (settleEdges n s).pending = s.pending := by
  unfold settleEdges; (repeat' split) <;> simp
@[simp] theorem settleEdges_rstLow (n : Nat) (s : State) :
    (settleEdges n s).rstLow = s.rstLow := by
  unfold settleEdges; (repeat' split) <;> simp
@[simp] theorem settleEdges_table (n : Nat) (s : State) :
    (settleEdges n s).table = s.table := by
  unfold settleEdges; (repeat' split) <;> simp
@[simp] theorem settleEdges_rules (n : Nat) (s : State) :
    (settleEdges n s).rules = s.rules := by
  unfold settleEdges; (repeat' split) <;> simp
@[simp] theorem settleEdges_trigger (n : Nat) (s : State) :
    (settleEdges n s).trigger = s.trigger := by
  unfold settleEdges; (repeat' split) <;> simp
@[simp] theorem settleEdges_numbering (n : Nat) (s : State) :
    (settleEdges n s).numbering = s.numbering := by
  unfold settleEdges; (repeat' split) <;> simp
@[simp] theorem settleEdges_settings (n : Nat) (s : State) :
    (settleEdges n s).settings = s.settings := by
  unfold settleEdges; (repeat' split) <;> simp
@[simp] theorem settleEdges_token (n : Nat) (s : State) :
    (settleEdges n s).token = s.token := by
  unfold settleEdges; (repeat' split) <;> simp
@[simp] theorem settleEdges_ports (n : Nat) (s : State) :
    (settleEdges n s).ports = s.ports := by
  unfold settleEdges; (repeat' split) <;> simp
@[simp] theorem settleEdges_counters (n : Nat) (s : State) :
    (settleEdges n s).counters = s.counters := by
  unfold settleEdges; (repeat' split) <;> simp

@[simp] theorem startSettle_pending (x : ReferenceSelection) (s : State) : (startSettle x s).pending = s.pending := rfl
@[simp] theorem startSettle_rstLow (x : ReferenceSelection) (s : State) : (startSettle x s).rstLow = s.rstLow := rfl
@[simp] theorem startSettle_table (x : ReferenceSelection) (s : State) : (startSettle x s).table = s.table := rfl
@[simp] theorem startSettle_rules (x : ReferenceSelection) (s : State) : (startSettle x s).rules = s.rules := rfl
@[simp] theorem startSettle_readers (x : ReferenceSelection) (s : State) : (startSettle x s).readers = s.readers := rfl
@[simp] theorem startSettle_trigger (x : ReferenceSelection) (s : State) : (startSettle x s).trigger = s.trigger := rfl
@[simp] theorem startSettle_numbering (x : ReferenceSelection) (s : State) : (startSettle x s).numbering = s.numbering := rfl
@[simp] theorem startSettle_busy (x : ReferenceSelection) (s : State) : (startSettle x s).busy = s.busy := rfl
@[simp] theorem startSettle_settings (x : ReferenceSelection) (s : State) : (startSettle x s).settings = s.settings := rfl
@[simp] theorem startSettle_token (x : ReferenceSelection) (s : State) : (startSettle x s).token = s.token := rfl
@[simp] theorem startSettle_ports (x : ReferenceSelection) (s : State) : (startSettle x s).ports = s.ports := rfl
@[simp] theorem startSettle_counters (x : ReferenceSelection) (s : State) : (startSettle x s).counters = s.counters := rfl

@[simp] theorem takeDueEvents_pending (s : State) : (takeDueEvents s).pending = s.pending := by
  simp [takeDueEvents]
@[simp] theorem takeDueEvents_rstLow (s : State) : (takeDueEvents s).rstLow = s.rstLow := by
  simp [takeDueEvents]
@[simp] theorem takeDueEvents_timebase (s : State) : (takeDueEvents s).timebase = s.timebase := by
  simp [takeDueEvents]
@[simp] theorem takeDueEvents_settings (s : State) : (takeDueEvents s).settings = s.settings := by
  simp [takeDueEvents]
@[simp] theorem takeDueEvents_token (s : State) : (takeDueEvents s).token = s.token := by
  simp [takeDueEvents]
@[simp] theorem takeDueEvents_ports (s : State) : (takeDueEvents s).ports = s.ports := by
  simp [takeDueEvents]

@[simp] theorem coarsePulse_pending (s : State) : (coarsePulse s).pending = s.pending := by
  unfold coarsePulse; split <;> simp
@[simp] theorem coarsePulse_rstLow (s : State) : (coarsePulse s).rstLow = s.rstLow := by
  unfold coarsePulse; split <;> simp
@[simp] theorem coarsePulse_table (s : State) : (coarsePulse s).table = s.table := by
  unfold coarsePulse; split <;> simp
@[simp] theorem coarsePulse_rules (s : State) : (coarsePulse s).rules = s.rules := by
  unfold coarsePulse; split <;> simp
@[simp] theorem coarsePulse_readers (s : State) : (coarsePulse s).readers = s.readers := by
  unfold coarsePulse; split <;> simp
@[simp] theorem coarsePulse_timebase (s : State) :
    (coarsePulse s).timebase = s.timebase := by
  unfold coarsePulse; split <;> simp
@[simp] theorem coarsePulse_numbering (s : State) :
    (coarsePulse s).numbering = s.numbering := by
  unfold coarsePulse; split <;> simp
@[simp] theorem coarsePulse_settings (s : State) :
    (coarsePulse s).settings = s.settings := by
  unfold coarsePulse; split <;> simp
@[simp] theorem coarsePulse_token (s : State) : (coarsePulse s).token = s.token := by
  unfold coarsePulse; split <;> simp
@[simp] theorem coarsePulse_ports (s : State) : (coarsePulse s).ports = s.ports := by
  unfold coarsePulse; split <;> simp

@[simp] theorem holdPulses_pending (s : State) : (holdPulses s).pending = s.pending := rfl
@[simp] theorem holdPulses_rstLow (s : State) : (holdPulses s).rstLow = s.rstLow := rfl
@[simp] theorem holdPulses_table (s : State) : (holdPulses s).table = s.table := rfl
@[simp] theorem holdPulses_rules (s : State) : (holdPulses s).rules = s.rules := rfl
@[simp] theorem holdPulses_trigger (s : State) : (holdPulses s).trigger = s.trigger := rfl
@[simp] theorem holdPulses_timebase (s : State) : (holdPulses s).timebase = s.timebase := rfl
@[simp] theorem holdPulses_numbering (s : State) : (holdPulses s).numbering = s.numbering := rfl
@[simp] theorem holdPulses_busy (s : State) : (holdPulses s).busy = s.busy := rfl
@[simp] theorem holdPulses_settings (s : State) : (holdPulses s).settings = s.settings := rfl
@[simp] theorem holdPulses_token (s : State) : (holdPulses s).token = s.token := rfl
@[simp] theorem holdPulses_ports (s : State) : (holdPulses s).ports = s.ports := rfl
@[simp] theorem holdPulses_counters (s : State) : (holdPulses s).counters = s.counters := rfl

@[simp] theorem countTick_pending (s : State) : (countTick s).pending = s.pending := by
  simp [countTick]
@[simp] theorem countTick_rstLow (s : State) : (countTick s).rstLow = s.rstLow := by
  simp [countTick]
@[simp] theorem countTick_table (s : State) : (countTick s).table = s.table := by
  simp [countTick]
@[simp] theorem countTick_rules (s : State) : (countTick s).rules = s.rules := by
  simp [countTick]
@[simp] theorem countTick_numbering (s : State) : (countTick s).numbering = s.numbering := by
  simp [countTick]
@[simp] theorem countTick_settings (s : State) : (countTick s).settings = s.settings := by
  simp [countTick]
@[simp] theorem countTick_token (s : State) : (countTick s).token = s.token := by
  simp [countTick]
@[simp] theorem countTick_ports (s : State) : (countTick s).ports = s.ports := by
  simp [countTick]

@[simp] theorem takeTick_pending (s : State) : (takeTick s).pending = s.pending := by
  simp [takeTick]
@[simp] theorem takeTick_rstLow (s : State) : (takeTick s).rstLow = s.rstLow := by
  simp [takeTick]
@[simp] theorem takeTick_settings (s : State) : (takeTick s).settings = s.settings := by
  simp [takeTick]
@[simp] theorem takeTick_token (s : State) : (takeTick s).token = s.token := by
  simp [takeTick]
@[simp] theorem takeTick_ports (s : State) : (takeTick s).ports = s.ports := by
  simp [takeTick]

@[simp] theorem takeDueTick_pending (s : State) : (takeDueTick s).pending = s.pending := by
  unfold takeDueTick; split <;> simp
@[simp] theorem takeDueTick_rstLow (s : State) : (takeDueTick s).rstLow = s.rstLow := by
  unfold takeDueTick; split <;> simp
@[simp] theorem takeDueTick_settings (s : State) :
    (takeDueTick s).settings = s.settings := by
  unfold takeDueTick; split <;> simp
@[simp] theorem takeDueTick_token (s : State) : (takeDueTick s).token = s.token := by
  unfold takeDueTick; split <;> simp
@[simp] theorem takeDueTick_ports (s : State) : (takeDueTick s).ports = s.ports := by
  unfold takeDueTick; split <;> simp

@[simp] theorem countRefclkEdge_pending (s : State) :
    (countRefclkEdge s).pending = s.pending := by
  unfold countRefclkEdge; dsimp only; (repeat' split) <;> simp
@[simp] theorem countRefclkEdge_rstLow (s : State) :
    (countRefclkEdge s).rstLow = s.rstLow := by
  unfold countRefclkEdge; dsimp only; (repeat' split) <;> simp
@[simp] theorem countRefclkEdge_settings (s : State) :
    (countRefclkEdge s).settings = s.settings := by
  unfold countRefclkEdge; dsimp only; (repeat' split) <;> simp
@[simp] theorem countRefclkEdge_token (s : State) :
    (countRefclkEdge s).token = s.token := by
  unfold countRefclkEdge; dsimp only; (repeat' split) <;> simp
@[simp] theorem countRefclkEdge_ports (s : State) :
    (countRefclkEdge s).ports = s.ports := by
  unfold countRefclkEdge; dsimp only; (repeat' split) <;> simp

@[simp] theorem finishSettle_pending (s : State) : (finishSettle s).pending = s.pending := by
  simp [finishSettle]
@[simp] theorem finishSettle_rstLow (s : State) : (finishSettle s).rstLow = s.rstLow := by
  simp [finishSettle]
@[simp] theorem finishSettle_table (s : State) : (finishSettle s).table = s.table := by
  simp [finishSettle]
@[simp] theorem finishSettle_rules (s : State) : (finishSettle s).rules = s.rules := by
  simp [finishSettle]
@[simp] theorem finishSettle_trigger (s : State) : (finishSettle s).trigger = s.trigger := by
  simp [finishSettle]
@[simp] theorem finishSettle_numbering (s : State) : (finishSettle s).numbering = s.numbering := by
  simp [finishSettle]
@[simp] theorem finishSettle_settings (s : State) : (finishSettle s).settings = s.settings := by
  simp [finishSettle]
@[simp] theorem finishSettle_token (s : State) : (finishSettle s).token = s.token := by
  simp [finishSettle]
@[simp] theorem finishSettle_ports (s : State) : (finishSettle s).ports = s.ports := by
  simp [finishSettle]
@[simp] theorem finishSettle_counters (s : State) : (finishSettle s).counters = s.counters := by
  simp [finishSettle]

@[simp] theorem takeSettleComplete_pending (s : State) :
    (takeSettleComplete s).pending = s.pending := by
  unfold takeSettleComplete; dsimp only; split <;> simp
@[simp] theorem takeSettleComplete_rstLow (s : State) :
    (takeSettleComplete s).rstLow = s.rstLow := by
  unfold takeSettleComplete; dsimp only; split <;> simp
@[simp] theorem takeSettleComplete_settings (s : State) :
    (takeSettleComplete s).settings = s.settings := by
  unfold takeSettleComplete; dsimp only; split <;> simp
@[simp] theorem takeSettleComplete_token (s : State) :
    (takeSettleComplete s).token = s.token := by
  unfold takeSettleComplete; dsimp only; split <;> simp
@[simp] theorem takeSettleComplete_ports (s : State) :
    (takeSettleComplete s).ports = s.ports := by
  unfold takeSettleComplete; dsimp only; split <;> simp

@[simp] theorem fallback_pending (s : State) : (fallback s).pending = s.pending := by
  simp [fallback]
@[simp] theorem fallback_rstLow (s : State) : (fallback s).rstLow = s.rstLow := by
  simp [fallback]
@[simp] theorem fallback_settings (s : State) : (fallback s).settings = s.settings := by
  simp [fallback]
@[simp] theorem fallback_token (s : State) : (fallback s).token = s.token := by
  simp [fallback]
@[simp] theorem fallback_ports (s : State) : (fallback s).ports = s.ports := by
  simp [fallback]

@[simp] theorem monitorExpires_pending (s : State) : (monitorExpires s).pending = s.pending := rfl
@[simp] theorem monitorExpires_rstLow (s : State) : (monitorExpires s).rstLow = s.rstLow := rfl
@[simp] theorem monitorExpires_table (s : State) : (monitorExpires s).table = s.table := rfl
@[simp] theorem monitorExpires_rules (s : State) : (monitorExpires s).rules = s.rules := rfl
@[simp] theorem monitorExpires_readers (s : State) : (monitorExpires s).readers = s.readers := rfl
@[simp] theorem monitorExpires_trigger (s : State) : (monitorExpires s).trigger = s.trigger := rfl
@[simp] theorem monitorExpires_numbering (s : State) : (monitorExpires s).numbering = s.numbering := rfl
@[simp] theorem monitorExpires_busy (s : State) : (monitorExpires s).busy = s.busy := rfl
@[simp] theorem monitorExpires_settings (s : State) : (monitorExpires s).settings = s.settings := rfl
@[simp] theorem monitorExpires_token (s : State) : (monitorExpires s).token = s.token := rfl
@[simp] theorem monitorExpires_ports (s : State) : (monitorExpires s).ports = s.ports := rfl
@[simp] theorem monitorExpires_counters (s : State) : (monitorExpires s).counters = s.counters := rfl

@[simp] theorem loseRefclk_pending (s : State) : (loseRefclk s).pending = s.pending := by
  unfold loseRefclk; split <;> simp
@[simp] theorem loseRefclk_rstLow (s : State) : (loseRefclk s).rstLow = s.rstLow := by
  unfold loseRefclk; split <;> simp
@[simp] theorem loseRefclk_settings (s : State) : (loseRefclk s).settings = s.settings := by
  unfold loseRefclk; split <;> simp
@[simp] theorem loseRefclk_token (s : State) : (loseRefclk s).token = s.token := by
  unfold loseRefclk; split <;> simp
@[simp] theorem loseRefclk_ports (s : State) : (loseRefclk s).ports = s.ports := by
  unfold loseRefclk; split <;> simp

/-! ### Settings -/

@[simp] theorem storeShared_pending (x : SharedSetting) (v : Value16) (s : State) :
    (storeShared x v s).pending = s.pending := by
  cases x <;> rfl
@[simp] theorem storeShared_rstLow (x : SharedSetting) (v : Value16) (s : State) :
    (storeShared x v s).rstLow = s.rstLow := by
  cases x <;> rfl
@[simp] theorem storeShared_table (x : SharedSetting) (v : Value16) (s : State) :
    (storeShared x v s).table = s.table := by
  cases x <;> rfl
@[simp] theorem storeShared_rules (x : SharedSetting) (v : Value16) (s : State) :
    (storeShared x v s).rules = s.rules := by
  cases x <;> rfl
@[simp] theorem storeShared_readers (x : SharedSetting) (v : Value16) (s : State) :
    (storeShared x v s).readers = s.readers := by
  cases x <;> rfl
@[simp] theorem storeShared_trigger (x : SharedSetting) (v : Value16) (s : State) :
    (storeShared x v s).trigger = s.trigger := by
  cases x <;> rfl
@[simp] theorem storeShared_timebase (x : SharedSetting) (v : Value16) (s : State) :
    (storeShared x v s).timebase = s.timebase := by
  cases x <;> rfl
@[simp] theorem storeShared_busy (x : SharedSetting) (v : Value16) (s : State) :
    (storeShared x v s).busy = s.busy := by
  cases x <;> rfl
@[simp] theorem storeShared_token (x : SharedSetting) (v : Value16) (s : State) :
    (storeShared x v s).token = s.token := by
  cases x <;> rfl
@[simp] theorem storeShared_ports (x : SharedSetting) (v : Value16) (s : State) :
    (storeShared x v s).ports = s.ports := by
  cases x <;> rfl
@[simp] theorem storeShared_counters (x : SharedSetting) (v : Value16) (s : State) :
    (storeShared x v s).counters = s.counters := by
  cases x <;> rfl

@[simp] theorem storeSetting_pending (x : Setting) (v : Value16) (s : State) :
    (storeSetting x v s).pending = s.pending := by
  cases x <;> simp [storeSetting]
@[simp] theorem storeSetting_rstLow (x : Setting) (v : Value16) (s : State) :
    (storeSetting x v s).rstLow = s.rstLow := by
  cases x <;> simp [storeSetting]
@[simp] theorem storeSetting_table (x : Setting) (v : Value16) (s : State) :
    (storeSetting x v s).table = s.table := by
  cases x <;> simp [storeSetting]
@[simp] theorem storeSetting_rules (x : Setting) (v : Value16) (s : State) :
    (storeSetting x v s).rules = s.rules := by
  cases x <;> simp [storeSetting]
@[simp] theorem storeSetting_trigger (x : Setting) (v : Value16) (s : State) :
    (storeSetting x v s).trigger = s.trigger := by
  cases x <;> simp [storeSetting]
@[simp] theorem storeSetting_timebase (x : Setting) (v : Value16) (s : State) :
    (storeSetting x v s).timebase = s.timebase := by
  cases x <;> simp [storeSetting]
@[simp] theorem storeSetting_busy (x : Setting) (v : Value16) (s : State) :
    (storeSetting x v s).busy = s.busy := by
  cases x <;> simp [storeSetting]
@[simp] theorem storeSetting_token (x : Setting) (v : Value16) (s : State) :
    (storeSetting x v s).token = s.token := by
  cases x <;> simp [storeSetting]
@[simp] theorem storeSetting_ports (x : Setting) (v : Value16) (s : State) :
    (storeSetting x v s).ports = s.ports := by
  cases x <;> simp [storeSetting]
@[simp] theorem storeSetting_counters (x : Setting) (v : Value16) (s : State) :
    (storeSetting x v s).counters = s.counters := by
  cases x <;> simp [storeSetting]

@[simp] theorem restartDivider_pending (s : State) : (restartDivider s).pending = s.pending := by
  simp [restartDivider]
@[simp] theorem restartDivider_rstLow (s : State) : (restartDivider s).rstLow = s.rstLow := by
  simp [restartDivider]
@[simp] theorem restartDivider_settings (s : State) : (restartDivider s).settings = s.settings := by
  simp [restartDivider]
@[simp] theorem restartDivider_token (s : State) : (restartDivider s).token = s.token := by
  simp [restartDivider]
@[simp] theorem restartDivider_ports (s : State) : (restartDivider s).ports = s.ports := by
  simp [restartDivider]

@[simp] theorem applySetting_pending (x : Setting) (s : State) :
    (applySetting x s).pending = s.pending := by
  unfold applySetting; split <;> simp
@[simp] theorem applySetting_rstLow (x : Setting) (s : State) :
    (applySetting x s).rstLow = s.rstLow := by
  unfold applySetting; split <;> simp
@[simp] theorem applySetting_table (x : Setting) (s : State) :
    (applySetting x s).table = s.table := by
  unfold applySetting; split <;> simp
@[simp] theorem applySetting_rules (x : Setting) (s : State) :
    (applySetting x s).rules = s.rules := by
  unfold applySetting; split <;> simp
@[simp] theorem applySetting_trigger (x : Setting) (s : State) :
    (applySetting x s).trigger = s.trigger := by
  unfold applySetting; split <;> simp
@[simp] theorem applySetting_timebase (x : Setting) (s : State) :
    (applySetting x s).timebase = s.timebase := by
  unfold applySetting; split <;> simp
@[simp] theorem applySetting_numbering (x : Setting) (s : State) :
    (applySetting x s).numbering = s.numbering := by
  unfold applySetting; split <;> simp
@[simp] theorem applySetting_settings (x : Setting) (s : State) :
    (applySetting x s).settings = s.settings := by
  unfold applySetting; split <;> simp
@[simp] theorem applySetting_token (x : Setting) (s : State) :
    (applySetting x s).token = s.token := by
  unfold applySetting; split <;> simp
@[simp] theorem applySetting_ports (x : Setting) (s : State) :
    (applySetting x s).ports = s.ports := by
  unfold applySetting; split <;> simp
@[simp] theorem applySetting_counters (x : Setting) (s : State) :
    (applySetting x s).counters = s.counters := by
  unfold applySetting; split <;> simp

@[simp] theorem writeSetting_pending (x : Setting) (v : Value16) (s : State) :
    (writeSetting x v s).pending = s.pending := by
  unfold writeSetting; dsimp only; split <;> simp
@[simp] theorem writeSetting_rstLow (x : Setting) (v : Value16) (s : State) :
    (writeSetting x v s).rstLow = s.rstLow := by
  unfold writeSetting; dsimp only; split <;> simp
@[simp] theorem writeSetting_token (x : Setting) (v : Value16) (s : State) :
    (writeSetting x v s).token = s.token := by
  unfold writeSetting; dsimp only; split <;> simp
@[simp] theorem writeSetting_ports (x : Setting) (v : Value16) (s : State) :
    (writeSetting x v s).ports = s.ports := by
  unfold writeSetting; dsimp only; split <;> simp

end Sys2Proof.Machine
end

