-- ==== Sys2Proof/Laws/Ops.lean ====
section
/-! SUPPORT. What each shared operation does: for each one the equations that say its effect, so that no proof unfolds it. -/

namespace Sys2Proof.Machine

/-! ### The reset line and the effect point of a reader command -/

theorem whileRunning_high (f : State → State) {s : State} (h : s.rstLow = false) : whileRunning f s = f s := by
  simp [whileRunning, h]

theorem whileRunning_low (f : State → State) {s : State} (h : s.rstLow = true) : whileRunning f s = s := by
  simp [whileRunning, h]

theorem command_listening {r : Reader} {s : State} (h : listening r s = true) (code : Byte) (args : List Byte) (length : Nat)
    (act : State → Answer) : command r code args length act s = latchAnswer r code args length (act s) := by
  simp [command, h]

theorem command_not_listening {r : Reader} {s : State} (h : listening r s = false) (code : Byte) (args : List Byte)
    (length : Nat) (act : State → Answer) : command r code args length act s = s := by
  simp [command, h]

theorem replyBytes_refuse (length : Nat) {c : StatusCode} (h : c ≠ .ok) (s : State) :
    replyBytes length (refuse c s) = List.replicate length 0 := by
  simp [replyBytes, refuse, h]

@[simp] theorem replyBytes_perform (length : Nat) (reply : List Byte) (s : State) :
    replyBytes length (perform reply s) = reply := by
  simp [replyBytes, perform]

/-! ### Lengths of the replies (09 section 9.5) -/

@[simp] theorem bigEndian_length (n v : Nat) : (bigEndian n v).length = n := by
  induction n with
  | zero => rfl
  | succ n ih => simp [bigEndian, ih]

@[simp] theorem recordImage_length (x : EventRecord) : (recordImage x).length = 19 := by
  simp [recordImage]

@[simp] theorem statusReply_length (r : Reader) (s : State) : (statusReply r s).length = 13 := by
  simp [statusReply]

@[simp] theorem timeReply_length (s : State) : (timeReply s).length = 11 := by
  simp [timeReply]

@[simp] theorem heldBytes_length (l : List Identity) : (heldBytes l).length = 17 := by
  simp [heldBytes]

@[simp] theorem ruleImage_length (x : RoutingRule) : (ruleImage x).length = 6 := rfl

/-! ### Causes -/

theorem raiseFor_get (who : ReaderSet) (c : Cause) (s : State) (r : Reader) :
    (raiseFor who c s).readers.get r =
      if who.get r then { s.readers.get r with causes := (s.readers.get r).causes ||| causeBit c } else s.readers.get r := by
  simp [raiseFor]

theorem raise_get (r q : Reader) (c : Cause) (s : State) :
    (raise r c s).readers.get q =
      if q = r then { s.readers.get q with causes := (s.readers.get q).causes ||| causeBit c } else s.readers.get q := by
  by_cases h : q = r
  · subst h; simp [raise]
  · simp [raise, h]

theorem raiseMissed_get (who : ReaderSet) (s : State) (r : Reader) :
    (raiseMissed who s).readers.get r =
      if who.get r then { s.readers.get r with missed := saturatingSucc (s.readers.get r).missed } else s.readers.get r := by
  simp [raiseMissed]

/-! ### The busy unit -/

/-- The sources but FILL read nothing of the busy unit. -/
theorem anySource_withBusy (s : State) (b : BusyUnit) :
    anySource (s.withBusy b) =
      (b.fillActive || forcedSource s || epochSourceActive s || settlingSource s || readersSource s) := rfl

theorem anySource_eq (s : State) :
    anySource s =
      (s.busy.fillActive || forcedSource s || epochSourceActive s || settlingSource s || readersSource s) := rfl

@[simp] theorem driveBusy_fillActive (s : State) : (driveBusy s).busy.fillActive = s.busy.fillActive := by
  unfold driveBusy; (repeat' split) <;> rfl

@[simp] theorem reevaluateBusy_fillActive (s : State) : (reevaluateBusy s).busy.fillActive = fillHysteresis s := by
  simp [reevaluateBusy]

/-- The sources as a re-evaluation reads them, FILL after its update. -/
def sourcesAtReevaluation (s : State) : Bool :=
  fillHysteresis s || forcedSource s || epochSourceActive s || settlingSource s || readersSource s

theorem driveBusy_output (s : State) :
    (driveBusy s).busy.output = (anySource s || (s.busy.output && !(s.busy.minimumHold == .elapsed))) := by
  unfold driveBusy
  cases h : anySource s <;> cases ho : s.busy.output <;> cases hm : (s.busy.minimumHold == MinimumHold.elapsed) <;>
    simp [ho]

theorem reevaluateBusy_output (s : State) :
    (reevaluateBusy s).busy.output =
      (sourcesAtReevaluation s || (s.busy.output && !(s.busy.minimumHold == .elapsed))) := by
  simp only [reevaluateBusy, driveBusy_output, anySource_withBusy]
  rfl

theorem driveBusy_minimumHold (s : State) :
    (driveBusy s).busy.minimumHold =
      if anySource s then (if s.busy.output then s.busy.minimumHold else loadMinimumHold s.settings.busyMinimum)
      else if s.busy.output && s.busy.minimumHold == .elapsed then .idle else s.busy.minimumHold := by
  unfold driveBusy
  cases h : anySource s <;> cases ho : s.busy.output <;> cases hm : (s.busy.minimumHold == MinimumHold.elapsed) <;> simp

theorem reevaluateBusy_minimumHold (s : State) :
    (reevaluateBusy s).busy.minimumHold =
      if sourcesAtReevaluation s then
        (if s.busy.output then s.busy.minimumHold else loadMinimumHold s.settings.busyMinimum)
      else if s.busy.output && s.busy.minimumHold == .elapsed then .idle else s.busy.minimumHold := by
  simp only [reevaluateBusy, driveBusy_minimumHold, anySource_withBusy]
  rfl

/-- After a re-evaluation BUSY is asserted while a source is active (R131). -/
theorem reevaluateBusy_source (s : State) (h : anySource (reevaluateBusy s) = true) :
    (reevaluateBusy s).busy.output = true := by
  have e : anySource (reevaluateBusy s) = sourcesAtReevaluation s := by
    rw [anySource_eq, reevaluateBusy_fillActive]
    simp [sourcesAtReevaluation, forcedSource, epochSourceActive, settlingSource, readersSource, isAttached]
  rw [e] at h
  simp [reevaluateBusy_output, h]

/-! ### Records and lists -/

theorem modifyFirst_length {α : Type} (p : α → Bool) (f : α → α) (l : List α) : (modifyFirst p f l).length = l.length := by
  induction l with
  | nil => rfl
  | cons x l ih => by_cases h : p x <;> simp [modifyFirst, h, ih]

theorem modifyFirst_of_none {α : Type} (p : α → Bool) (f : α → α) {l : List α} (h : ∀ x ∈ l, p x = false) :
    modifyFirst p f l = l := by
  induction l with
  | nil => rfl
  | cons x l ih =>
    simp only [List.mem_cons, forall_eq_or_imp] at h
    simp [modifyFirst, h.1, ih h.2]

/-- The list splits at the first element that satisfies `p`; that element alone changes. -/
theorem modifyFirst_split {α : Type} (p : α → Bool) (f : α → α) {a : List α} {x : α} {b : List α}
    (ha : ∀ y ∈ a, p y = false) (hx : p x = true) : modifyFirst p f (a ++ x :: b) = a ++ f x :: b := by
  induction a with
  | nil => simp [modifyFirst, hx]
  | cons y a ih =>
    simp only [List.mem_cons, forall_eq_or_imp] at ha
    simp [modifyFirst, ha.1, ih ha.2]

theorem modifyFirst_map {α β : Type} (p : α → Bool) (f : α → α) (g : α → β) (h : ∀ x, g (f x) = g x) (l : List α) :
    (modifyFirst p f l).map g = l.map g := by
  induction l with
  | nil => rfl
  | cons x l ih => by_cases hx : p x <;> simp [modifyFirst, hx, h, ih]

theorem mem_modifyFirst {α : Type} {p : α → Bool} {f : α → α} {l : List α} {y : α} (h : y ∈ modifyFirst p f l) :
    y ∈ l ∨ ∃ x ∈ l, p x = true ∧ y = f x := by
  induction l with
  | nil => exact absurd h (by simp [modifyFirst])
  | cons x l ih =>
    by_cases hx : p x = true
    · simp only [modifyFirst, hx, if_true, List.mem_cons] at h
      rcases h with h | h
      · exact Or.inr ⟨x, by simp, hx, h⟩
      · exact Or.inl (by simp [h])
    · simp only [modifyFirst, hx, List.mem_cons, if_false, Bool.false_eq_true] at h
      rcases h with h | h
      · exact Or.inl (by simp [h])
      · rcases ih h with h | ⟨z, hz, hp, he⟩
        · exact Or.inl (by simp [h])
        · exact Or.inr ⟨z, by simp [hz], hp, he⟩

@[simp] theorem takeRecord_identity (r : Reader) (x : EventRecord) : (takeRecord r x).identity = x.identity := rfl
@[simp] theorem releaseRecord_identity (r : Reader) (x : EventRecord) : (releaseRecord r x).identity = x.identity := rfl
@[simp] theorem forceReleaseRecord_identity (r : Reader) (x : EventRecord) :
    (forceReleaseRecord r x).identity = x.identity := rfl

@[simp] theorem releaseIn_identities (r : Reader) (id : Identity) (t : List EventRecord) :
    (releaseIn r id t).map (·.identity) = t.map (·.identity) :=
  modifyFirst_map (heldAs r id) (releaseRecord r) _ (fun _ => rfl) t

@[simp] theorem forceReleaseIn_identities (r : Reader) (id : Identity) (t : List EventRecord) :
    (forceReleaseIn r id t).map (·.identity) = t.map (·.identity) :=
  modifyFirst_map (heldAs r id) (forceReleaseRecord r) _ (fun _ => rfl) t

@[simp] theorem massReleaseIn_identities (r : Reader) (t : List EventRecord) :
    (massReleaseIn r t).map (·.identity) = t.map (·.identity) := by
  simp only [massReleaseIn, List.map_map]
  refine List.map_congr_left fun x _ => ?_
  by_cases h : x.required.get r <;> simp [h]

/-! ### The retirement cascade -/

/-- With a head that waits, or an empty table, no cascade happens (R21). -/
theorem cascade_of_head_waits {s : State} (h : ∀ x, s.table.head? = some x → complete x = false) : cascade s = s := by
  unfold cascade
  cases ht : s.table with
  | nil => simp
  | cons x l =>
    have hx : complete x = false := h x (by simp [ht])
    simp [List.dropWhile, hx]

/-- With a complete head the cascade retires it and every complete record behind it, and completes the event (R21, R22). -/
theorem cascade_of_head_complete {s : State} {x : EventRecord} {l : List EventRecord} (ht : s.table = x :: l)
    (hx : complete x = true) : cascade s = finishCascade (s.withTable (l.dropWhile complete)) := by
  have hlen : (l.dropWhile complete).length ≤ l.length := (List.dropWhile_sublist complete).length_le
  unfold cascade
  simp only [ht, List.dropWhile, hx, List.length_cons]
  rw [if_neg (by omega)]

/-- After a cascade that lets no frame in, the head waits. -/
theorem dropWhile_head_waits (t : List EventRecord) (x : EventRecord) (h : (t.dropWhile complete).head? = some x) :
    complete x = false := by
  induction t with
  | nil => simp at h
  | cons y l ih =>
    by_cases hy : complete y = true
    · simp only [List.dropWhile, hy] at h; exact ih h
    · simp only [List.dropWhile, hy] at h
      simp only [List.head?_cons, Option.some.injEq] at h
      simpa [h] using hy

/-! ### Entry -/

@[simp] theorem enterRecord_table (s : State) : (enterRecord s).table = tableAfterEntry s := by simp [enterRecord]
@[simp] theorem enterRecord_rules (s : State) : (enterRecord s).rules = (routingOfFrame s).rules := by simp [enterRecord]
@[simp] theorem enterRecord_numbering (s : State) : (enterRecord s).numbering = numberingAfterEntry s := by
  simp [enterRecord]
@[simp] theorem enterRecord_trigger (s : State) : (enterRecord s).trigger = { s.trigger with gap := 0 } := by
  simp [enterRecord]
@[simp] theorem enterRecord_counters (s : State) : (enterRecord s).counters = countEntry (rollsOver s) s.counters := by
  simp [enterRecord]

theorem retryHeldFrame_not_holding {s : State} (h : s.trigger.state ≠ .holding) : retryHeldFrame s = s := by
  simp [retryHeldFrame, h]

theorem retryHeldFrame_full {s : State} (h : 64 ≤ fill s) : retryHeldFrame s = s := by
  simp [retryHeldFrame, Config.tableSlots, Nat.not_lt.mpr h]

theorem retryHeldFrame_enters {s : State} (h : s.trigger.state = .holding) (hf : fill s < 64) :
    retryHeldFrame s = acceptFrame s := by
  simp [retryHeldFrame, Config.tableSlots, h, hf]

/-! ### What an entry and a cascade leave of the readers' contexts -/

/-- Only the causes and the missed count of a reader's context differ. -/
def SameContexts (s t : State) : Prop := ∀ r, t.readers.get r =
  { s.readers.get r with causes := (t.readers.get r).causes, missed := (t.readers.get r).missed }

theorem SameContexts.refl (s : State) : SameContexts s s := fun _ => rfl

theorem SameContexts.trans {s t u : State} (h : SameContexts s t) (h' : SameContexts t u) : SameContexts s u := by
  intro r; rw [h' r, h r]

theorem SameContexts.of_readers {s t u : State} (h : SameContexts s t) (e : u.readers = t.readers) : SameContexts s u := by
  intro r; rw [e]; exact h r

theorem sameContexts_raiseFor (who : ReaderSet) (c : Cause) (s : State) : SameContexts s (raiseFor who c s) := by
  intro r; rw [raiseFor_get]; split <;> rfl

theorem sameContexts_raiseMissed (who : ReaderSet) (s : State) : SameContexts s (raiseMissed who s) := by
  intro r; rw [raiseMissed_get]; split <;> rfl

theorem sameContexts_raiseEntryCauses (required : ReaderSet) (runStart rolled : Bool) (s : State) :
    SameContexts s (raiseEntryCauses required runStart rolled s) := by
  unfold raiseEntryCauses; dsimp only
  have h := sameContexts_raiseFor required .available s
  cases runStart <;> cases rolled
  · exact h
  · exact h.trans (sameContexts_raiseFor _ _ _)
  · exact h.trans (sameContexts_raiseFor _ _ _)
  · exact (h.trans (sameContexts_raiseFor _ _ _)).trans (sameContexts_raiseFor _ _ _)

theorem sameContexts_acceptFrame (s : State) : SameContexts s (acceptFrame s) := by
  have h := (sameContexts_raiseMissed ((routingOfFrame s).routed.inter (lapsedSet s)) s).trans
    (sameContexts_raiseEntryCauses (requiredOfFrame s) (startsRun s) (rollsOver s) _)
  exact h.of_readers (by simp [acceptFrame, enterRecord])

theorem sameContexts_retryHeldFrame (s : State) : SameContexts s (retryHeldFrame s) := by
  unfold retryHeldFrame; split
  · exact sameContexts_acceptFrame s
  · exact SameContexts.refl s

theorem sameContexts_applyEpochReset (s : State) : SameContexts s (applyEpochReset s) :=
  (sameContexts_raiseFor _ _ s).of_readers rfl

theorem sameContexts_finishCascade (s : State) : SameContexts s (finishCascade s) := by
  unfold finishCascade; dsimp only; split
  · exact ((sameContexts_applyEpochReset s).trans (sameContexts_retryHeldFrame _)).of_readers (by simp)
  · exact (sameContexts_retryHeldFrame s).of_readers (by simp)

/-- A cascade, with the entry and the epoch reset that complete its event, leaves of every context all but causes and missed count. -/
theorem sameContexts_cascade (s : State) : SameContexts s (cascade s) := by
  unfold cascade; dsimp only; split
  · exact SameContexts.refl s
  · exact SameContexts.trans (fun _ => rfl) (sameContexts_finishCascade _)

@[simp] theorem cascade_holdTimer (s : State) (r : Reader) :
    ((cascade s).readers.get r).holdTimer = (s.readers.get r).holdTimer := by rw [sameContexts_cascade s r]
@[simp] theorem cascade_holdList (s : State) (r : Reader) :
    ((cascade s).readers.get r).holdList = (s.readers.get r).holdList := by rw [sameContexts_cascade s r]
@[simp] theorem cascade_readerState (s : State) (r : Reader) :
    ((cascade s).readers.get r).state = (s.readers.get r).state := by rw [sameContexts_cascade s r]
@[simp] theorem cascade_readerSettings (s : State) (r : Reader) :
    ((cascade s).readers.get r).settings = (s.readers.get r).settings := by rw [sameContexts_cascade s r]
@[simp] theorem cascade_declaredBusy (s : State) (r : Reader) :
    ((cascade s).readers.get r).declaredBusy = (s.readers.get r).declaredBusy := by rw [sameContexts_cascade s r]

/-! ### The timebase -/

@[simp] theorem completeSettle_timebase (s : State) :
    (completeSettle s).timebase = { s.timebase with state := .settled, settleCounter := 0, uncounted := 0 } := by
  simp [completeSettle]

/-- Edges at the settle counter: the state and the counter are all of the timebase that they reach (R105). -/
theorem settleEdges_timebase (n : Nat) (s : State) :
    (settleEdges n s).timebase =
      if s.timebase.state = .settling then
        if s.timebase.settleCounter ≤ n then { s.timebase with state := .settled, settleCounter := 0, uncounted := 0 }
        else { s.timebase with settleCounter := s.timebase.settleCounter - n }
      else s.timebase := by
  unfold settleEdges; (repeat' split) <;> simp

/-- No edge changes nothing, in SETTLED or with cycles left to count. -/
theorem settleEdges_zero {s : State} (h : s.timebase.state = .settled ∨ 0 < s.timebase.settleCounter) :
    settleEdges 0 s = s := by
  unfold settleEdges
  rcases h with h | h
  · simp [h]
  · rw [if_neg (Nat.not_le.mpr h)]; split <;> rfl

@[simp] theorem settleEdges_count (n : Nat) (s : State) : (settleEdges n s).timebase.count = s.timebase.count := by
  rw [settleEdges_timebase]; (repeat' split) <;> rfl
@[simp] theorem settleEdges_selection (n : Nat) (s : State) :
    (settleEdges n s).timebase.selection = s.timebase.selection := by
  rw [settleEdges_timebase]; (repeat' split) <;> rfl
@[simp] theorem settleEdges_divider (n : Nat) (s : State) : (settleEdges n s).timebase.divider = s.timebase.divider := by
  rw [settleEdges_timebase]; (repeat' split) <;> rfl
@[simp] theorem settleEdges_monitor (n : Nat) (s : State) : (settleEdges n s).timebase.monitor = s.timebase.monitor := by
  rw [settleEdges_timebase]; (repeat' split) <;> rfl
@[simp] theorem settleEdges_monitorCount (n : Nat) (s : State) :
    (settleEdges n s).timebase.monitorCount = s.timebase.monitorCount := by
  rw [settleEdges_timebase]; (repeat' split) <;> rfl

@[simp] theorem monitorEdges_count (n : Nat) (t : Timebase) : (monitorEdges n t).count = t.count := by
  unfold monitorEdges; split <;> rfl
@[simp] theorem monitorEdges_selection (n : Nat) (t : Timebase) : (monitorEdges n t).selection = t.selection := by
  unfold monitorEdges; split <;> rfl
@[simp] theorem monitorEdges_state (n : Nat) (t : Timebase) : (monitorEdges n t).state = t.state := by
  unfold monitorEdges; split <;> rfl
@[simp] theorem monitorEdges_settleCounter (n : Nat) (t : Timebase) : (monitorEdges n t).settleCounter = t.settleCounter := by
  unfold monitorEdges; split <;> rfl
@[simp] theorem monitorEdges_uncounted (n : Nat) (t : Timebase) : (monitorEdges n t).uncounted = t.uncounted := by
  unfold monitorEdges; split <;> rfl
@[simp] theorem monitorEdges_divider (n : Nat) (t : Timebase) : (monitorEdges n t).divider = t.divider := by
  unfold monitorEdges; split <;> rfl

/-- A tick advances the count by one, whatever else it brings (R100). -/
@[simp] theorem takeTick_count (s : State) : (takeTick s).timebase.count = s.timebase.count + 1 := by
  simp [takeTick, countTick, advanceCount]

/-- A tick restarts the divider (R101), so no tick is due after it. -/
@[simp] theorem takeTick_divider (s : State) : (takeTick s).timebase.divider = 0 := by
  simp [takeTick, countTick, advanceCount]

@[simp] theorem takeTick_selection (s : State) : (takeTick s).timebase.selection = s.timebase.selection := by
  simp [takeTick, countTick, advanceCount]

theorem takeTick_not_due (s : State) : tickDue (takeTick s) = false := by
  simp [tickDue, edgesPerTick]

theorem edgesToTick_takeDueEvents (s : State) : edgesToTick (takeDueEvents s) = edgesToTick s := by
  simp [edgesToTick, edgesPerTick]

/-- No edge is left until a tick that is due. -/
theorem edgesToTick_of_due {s : State} (h : tickDue s = true) : edgesToTick s = 0 := by
  have : edgesPerTick s ≤ s.timebase.divider := by simpa [tickDue] using h
  simp [edgesToTick, this]

/-- No edge is left until a tick that was due, so it takes nothing of the timebase but the count and the divider, in SETTLED or with cycles
left to count. -/
theorem takeTick_timebase_of_due {s : State} (h : tickDue s = true)
    (hs : s.timebase.state = .settled ∨ 0 < s.timebase.settleCounter) :
    (takeTick s).timebase = { s.timebase with count := s.timebase.count + 1, divider := 0 } := by
  have hn : edgesToTick (takeDueEvents s) = 0 := by rw [edgesToTick_takeDueEvents, edgesToTick_of_due h]
  have hm : monitorEdges 0 s.timebase = s.timebase := by simp [monitorEdges]
  have hd : (takeDueEvents s).withTimebase s.timebase = takeDueEvents s := by
    rw [← takeDueEvents_timebase s]; rfl
  have hs' : (takeDueEvents s).timebase.state = .settled ∨ 0 < (takeDueEvents s).timebase.settleCounter := by simpa using hs
  simp only [takeTick, countTick, hn, takeDueEvents_timebase, hm, Nat.zero_sub, Nat.min_eq_left (Nat.zero_le 1), hd,
    settleEdges_zero hs']
  rw [settleEdges_zero (by simpa [advanceCount] using hs)]
  simp [advanceCount]

/-- So the monitor does not move at a tick that was due, whatever the settle. -/
theorem takeTick_monitor_of_due {s : State} (h : tickDue s = true) :
    (takeTick s).timebase.monitor = s.timebase.monitor := by
  simp [takeTick, countTick, advanceCount, edgesToTick_takeDueEvents, edgesToTick_of_due h, monitorEdges]

end Sys2Proof.Machine
end

