-- ==== Sys2Proof/Laws/Answers.lean ====
section
/-! SUPPORT. The bytes of the replies spelled out, the re-evaluation once more, and what the answer of every reader command leaves alone. -/

namespace Sys2Proof.Machine

/-! ### Big-endian values (R179) -/

theorem bigEndian_two (x : BitVec 16) : bigEndian 2 x.toNat = [x.extractLsb' 8 8, x.extractLsb' 0 8] := by
  simp only [bigEndian, List.cons.injEq, and_true]
  refine ⟨?_, ?_⟩ <;> (apply BitVec.eq_of_toNat_eq; simp [BitVec.extractLsb', Nat.shiftRight_eq_div_pow])

theorem bigEndian_three (x : BitVec 24) :
    bigEndian 3 x.toNat = [x.extractLsb' 16 8, x.extractLsb' 8 8, x.extractLsb' 0 8] := by
  simp only [bigEndian, List.cons.injEq, and_true]
  refine ⟨?_, ?_, ?_⟩ <;> (apply BitVec.eq_of_toNat_eq; simp [BitVec.extractLsb', Nat.shiftRight_eq_div_pow])

theorem bigEndian_four (x : BitVec 40) :
    bigEndian 4 x.toNat = [x.extractLsb' 24 8, x.extractLsb' 16 8, x.extractLsb' 8 8, x.extractLsb' 0 8] := by
  simp only [bigEndian, List.cons.injEq, and_true]
  refine ⟨?_, ?_, ?_, ?_⟩ <;> (apply BitVec.eq_of_toNat_eq; simp [BitVec.extractLsb', Nat.shiftRight_eq_div_pow])

theorem bigEndian_five (x : BitVec 40) :
    bigEndian 5 x.toNat =
      [x.extractLsb' 32 8, x.extractLsb' 24 8, x.extractLsb' 16 8, x.extractLsb' 8 8, x.extractLsb' 0 8] := by
  simp only [bigEndian, List.cons.injEq, and_true]
  refine ⟨?_, ?_, ?_, ?_, ?_⟩ <;> (apply BitVec.eq_of_toNat_eq; simp [BitVec.extractLsb', Nat.shiftRight_eq_div_pow])

theorem bigEndian_six (x : BitVec 48) :
    bigEndian 6 x.toNat =
      [x.extractLsb' 40 8, x.extractLsb' 32 8, x.extractLsb' 24 8, x.extractLsb' 16 8, x.extractLsb' 8 8,
       x.extractLsb' 0 8] := by
  simp only [bigEndian, List.cons.injEq, and_true]
  refine ⟨?_, ?_, ?_, ?_, ?_, ?_⟩ <;>
    (apply BitVec.eq_of_toNat_eq; simp [BitVec.extractLsb', Nat.shiftRight_eq_div_pow])

/-! ### The re-evaluation -/

/-- A re-evaluation writes the busy unit alone. -/
theorem reevaluateBusy_eq_withBusy (s : State) : reevaluateBusy s = s.withBusy (reevaluateBusy s).busy := by
  unfold reevaluateBusy driveBusy; (repeat' split) <;> rfl

/-- The trigger port has no part in a re-evaluation. -/
theorem reevaluateBusy_withTrigger (s : State) (p : TriggerPort) :
    reevaluateBusy (s.withTrigger p) = (reevaluateBusy s).withTrigger p := by
  unfold reevaluateBusy driveBusy
  have e : ∀ b, anySource ((s.withTrigger p).withBusy b) = anySource (s.withBusy b) := fun _ => rfl
  have e2 : fillHysteresis (s.withTrigger p) = fillHysteresis s := rfl
  simp only [State.withTrigger_busy, e2, e]
  (repeat' split) <;> first | rfl | simp_all

theorem fillHysteresis_reevaluateBusy (s : State) : fillHysteresis (reevaluateBusy s) = fillHysteresis s := by
  simp only [fillHysteresis, reevaluateBusy_settings, fill, reevaluateBusy_table, reevaluateBusy_fillActive]
  (repeat' split) <;> simp_all

theorem sourcesAtReevaluation_reevaluateBusy (s : State) :
    sourcesAtReevaluation (reevaluateBusy s) = sourcesAtReevaluation s := by
  simp [sourcesAtReevaluation, fillHysteresis_reevaluateBusy, forcedSource, epochSourceActive, settlingSource,
    readersSource, isAttached]

/-- A second re-evaluation changes nothing. -/
theorem reevaluateBusy_idem (s : State) : reevaluateBusy (reevaluateBusy s) = reevaluateBusy s := by
  have hb : (reevaluateBusy (reevaluateBusy s)).busy = (reevaluateBusy s).busy := by
    have h1 : (reevaluateBusy (reevaluateBusy s)).busy.fillActive = (reevaluateBusy s).busy.fillActive := by
      rw [reevaluateBusy_fillActive, fillHysteresis_reevaluateBusy, reevaluateBusy_fillActive]
    have h2 := reevaluateBusy_output (reevaluateBusy s)
    have h3 := reevaluateBusy_minimumHold (reevaluateBusy s)
    rw [sourcesAtReevaluation_reevaluateBusy] at h2 h3
    have h4 := reevaluateBusy_output s
    have h5 := reevaluateBusy_minimumHold s
    rw [reevaluateBusy_settings] at h3
    have o : (reevaluateBusy (reevaluateBusy s)).busy.output = (reevaluateBusy s).busy.output := by
      rw [h2, h4, h5]
      cases sourcesAtReevaluation s <;> cases s.busy.output <;> (simp; try split) <;> simp_all
    have m : (reevaluateBusy (reevaluateBusy s)).busy.minimumHold = (reevaluateBusy s).busy.minimumHold := by
      rw [h3, h4, h5]
      clear * -
      generalize s.busy.minimumHold = held
      cases sourcesAtReevaluation s <;> cases s.busy.output <;> cases held <;> simp
    have ext : ∀ x y : BusyUnit,
        x.fillActive = y.fillActive → x.output = y.output → x.minimumHold = y.minimumHold → x = y := by
      rintro ⟨a, b, c⟩ ⟨d, e, f⟩ rfl rfl rfl; rfl
    exact ext _ _ h1 o m
  rw [reevaluateBusy_eq_withBusy (reevaluateBusy s), hb]; rfl

/-! ### The bytes of a command at its port (R144, R146) -/

/-- The argument bytes that are left take the port from ARGUMENTS to TURNAROUND. -/
theorem arrive_arguments (code : Byte) : ∀ (rest : List Byte) (p : ReaderPort), p.phase = .arguments → p.command = some code →
    rest ≠ [] → p.args.length + rest.length = argumentCount code →
    rest.foldl arrive p = { p with phase := .turnaround, args := p.args ++ rest } := by
  intro rest
  induction rest with
  | nil => intro p _ _ h; exact absurd rfl h
  | cons b rest ih =>
    intro p hp hc _ hn
    simp only [List.length_cons] at hn
    by_cases hr : rest = []
    · subst hr
      have : p.args.length + 1 = argumentCount code := by simpa using hn
      simp [arrive, hp, hc, this]
    · have hlen : 0 < rest.length := List.length_pos_iff.mpr hr
      have hne : p.args.length + 1 ≠ argumentCount code := by omega
      have e : arrive p b = { p with phase := .arguments, args := p.args ++ [b] } := by simp [arrive, hp, hc, hne]
      rw [List.foldl_cons, e, ih { p with phase := .arguments, args := p.args ++ [b] } rfl hc hr (by simp; omega)]
      simp

/-- A command byte with all its argument bytes takes the port from COMMAND to TURNAROUND, and the port holds them all. -/
theorem arrive_command {p : ReaderPort} (hp : p.phase = .command) (code : Byte) (args : List Byte)
    (hn : args.length = argumentCount code) :
    (code :: args).foldl arrive p = { p with phase := .turnaround, command := some code, args := args } := by
  cases args with
  | nil =>
    have : argumentCount code = 0 := hn.symm
    simp [arrive, hp, this]
  | cons b rest =>
    have hne : argumentCount code ≠ 0 := by simp at hn; omega
    have e : arrive p code = { p with phase := .arguments, command := some code, args := [] } := by simp [arrive, hp, hne]
    rw [List.foldl_cons, e, arrive_arguments code (b :: rest)
      { p with phase := .arguments, command := some code, args := [] } rfl rfl (by simp) (by simpa using hn)]
    rfl

/-- The latched answer of a command that comes with as many argument bytes as its code has. -/
theorem latchAnswer_eq {r : Reader} {x : Answer} (hp : (x.after.ports.get r).phase = .command) (code : Byte)
    (args : List Byte) (length : Nat) (hn : args.length = argumentCount code) :
    latchAnswer r code args length x = x.after.withPorts (x.after.ports.set r { x.after.ports.get r with
      phase := .turnaround, command := some code, args := args, status := some x.status, reply := replyBytes length x,
      sent := 0 }) := by
  simp only [latchAnswer, arrive_command hp code args hn]

/-- The row of a SET is well formed, and its bytes are those of the SET. -/
theorem setCommandOf_bytes (r : Reader) (id : Byte) (v : Value16) :
    (setCommandOf r id v).wellFormed = true ∧ commandBytes (setCommandOf r id v) = setBytes id v := by
  by_cases h : settingIdsWithOwnRow.contains id = true
  · simp only [settingIdsWithOwnRow, List.contains_eq_mem, decide_eq_true_eq, List.mem_cons, List.not_mem_nil, or_false] at h
    rcases h with h | h | h | h | h | h | h | h | h | h <;> subst h <;> exact ⟨rfl, rfl⟩
  · have hs : setCommandOf r id v = .set r id v := by
      have h' := h
      simp only [settingIdsWithOwnRow, List.contains_eq_mem, decide_eq_true_eq, List.mem_cons, List.not_mem_nil, or_false,
        not_or] at h'
      unfold setCommandOf
      (repeat' split) <;> first | rfl | (exfalso; simp_all [attnMaskId])
    rw [hs]
    exact ⟨by simpa [Instr.wellFormed] using h, rfl⟩

/-- A byte time leaves everything but the ports alone. -/
@[simp] theorem byteTime_ports_get (s : State) (r : Reader) : (byteTime s).ports.get r = sendByte (s.ports.get r) := by
  simp [byteTime]

/-! ### What a reader command leaves alone -/

/-- The effect of a command at its effect point leaves the ports, the reset line and the queue alone. -/
def KeepsPorts (act : State → Answer) : Prop :=
  ∀ s, (act s).after.ports = s.ports ∧ (act s).after.rstLow = s.rstLow ∧ (act s).after.pending = s.pending

/-- A refused command changes nothing, and a performed one has a reply of its length (R150, R151). -/
def AnswersInLength (length : Nat) (act : State → Answer) : Prop :=
  ∀ s, ((act s).status ≠ .ok → (act s).after = s) ∧ ((act s).status = .ok → (act s).reply.length = length)

theorem command_pending {act : State → Answer} (h : KeepsPorts act) (r : Reader) (code : Byte) (args : List Byte)
    (length : Nat) (s : State) : (command r code args length act s).pending = s.pending := by
  unfold command; split
  · simpa [latchAnswer] using (h s).2.2
  · rfl

theorem command_rstLow {act : State → Answer} (h : KeepsPorts act) (r : Reader) (code : Byte) (args : List Byte)
    (length : Nat) (s : State) : (command r code args length act s).rstLow = s.rstLow := by
  unfold command; split
  · simpa [latchAnswer] using (h s).2.1
  · rfl

theorem command_other_port {act : State → Answer} (h : KeepsPorts act) (r : Reader) (code : Byte) (args : List Byte)
    (length : Nat) (s : State) {q : Reader} (hq : q ≠ r) :
    (command r code args length act s).ports.get q = s.ports.get q := by
  unfold command; split
  · simp [latchAnswer, (h s).1, hq]
  · rfl

theorem keeps_report (f : State → List Byte) : KeepsPorts fun s => perform (f s) s := fun _ => ⟨rfl, rfl, rfl⟩
theorem keeps_refuse (c : StatusCode) : KeepsPorts (refuse c) := fun _ => ⟨rfl, rfl, rfl⟩
theorem keeps_causes (r : Reader) : KeepsPorts (answerCauses r) := fun _ => ⟨rfl, rfl, rfl⟩
theorem keeps_take (r : Reader) : KeepsPorts (answerTake r) := by
  intro s; unfold answerTake; dsimp only; (repeat' split) <;> simp [perform, refuse]
theorem keeps_release (r : Reader) (x : Identity) : KeepsPorts (answerRelease r x) := by
  intro s; unfold answerRelease; dsimp only; (repeat' split) <;> simp [perform, refuse]
theorem keeps_releaseOldest (r : Reader) : KeepsPorts (answerReleaseOldest r) := by
  intro s; unfold answerReleaseOldest; dsimp only; (repeat' split) <;> simp [perform, refuse]
theorem keeps_attach (r : Reader) : KeepsPorts (answerAttach r) := by
  intro s; unfold answerAttach; split <;> simp [perform, refuse]
theorem keeps_detach (r : Reader) : KeepsPorts (answerDetach r) := by
  intro s; unfold answerDetach; split <;> simp [perform, refuse]
theorem keeps_resume (r : Reader) : KeepsPorts (answerResume r) := by
  intro s; unfold answerResume; split <;> simp [perform, refuse]
theorem keeps_declareBusy (r : Reader) (v : Byte) : KeepsPorts (answerDeclareBusy r v) := by
  intro s; unfold answerDeclareBusy; dsimp only; (repeat' split) <;> simp [perform, refuse]
theorem keeps_readerReset (r : Reader) : KeepsPorts (answerReaderReset r) := by
  intro s; unfold answerReaderReset freeTokenOf; dsimp only; split <;> simp [perform]
theorem keeps_claim (r : Reader) : KeepsPorts (answerClaim r) := by
  intro s; unfold answerClaim; (repeat' split) <;> simp [perform, refuse]
theorem keeps_yield (r : Reader) : KeepsPorts (answerYield r) := by
  intro s; unfold answerYield; split <;> simp [perform, refuse]
theorem keeps_set (r : Reader) (x : Byte) (v : Value16) : KeepsPorts (answerSet r x v) := by
  intro s; unfold answerSet; (repeat' split) <;> simp [perform, refuse]
theorem keeps_get (x : Byte) : KeepsPorts (answerGet x) := by
  intro s; unfold answerGet; split <;> simp [perform, refuse]
theorem keeps_ruleWrite (r : Reader) (a b c d e f : Byte) : KeepsPorts (answerRuleWrite r a b c d e f) := by
  intro s; unfold answerRuleWrite; (repeat' split) <;> simp [perform, refuse]
theorem keeps_ruleRead (x : Byte) : KeepsPorts (answerRuleRead x) := by
  intro s; unfold answerRuleRead; split <;> simp [perform, refuse]
theorem keeps_epoch (r : Reader) : KeepsPorts (answerEpoch r) := by
  intro s; unfold answerEpoch; (repeat' split) <;> simp [perform, refuse]
theorem keeps_clear (r : Reader) : KeepsPorts (answerClear r) := by
  intro s; unfold answerClear hubClear emptyHub; dsimp only; (repeat' split) <;> simp [perform, refuse]
theorem keeps_reference (r : Reader) (v : Byte) : KeepsPorts (answerReference r v) := by
  intro s; unfold answerReference switchReference; (repeat' split) <;> simp [perform, refuse]
theorem keeps_counter (r : Reader) (x v : Byte) : KeepsPorts (answerCounter r x v) := by
  intro s; unfold answerCounter; (repeat' split) <;> simp [perform, refuse]
theorem keeps_clearCounters (r : Reader) : KeepsPorts (answerClearCounters r) := by
  intro s; unfold answerClearCounters; split <;> simp [perform, refuse]

theorem length_causes (r : Reader) : AnswersInLength 2 (answerCauses r) := by
  intro s; simp [answerCauses, perform]
theorem length_take (r : Reader) : AnswersInLength 19 (answerTake r) := by
  intro s; unfold answerTake; dsimp only; (repeat' split) <;> simp [perform, refuse]
theorem length_get (x : Byte) : AnswersInLength 2 (answerGet x) := by
  intro s; unfold answerGet; split <;> simp [perform, refuse]
theorem length_ruleRead (x : Byte) : AnswersInLength 6 (answerRuleRead x) := by
  intro s; unfold answerRuleRead; split <;> simp [perform, refuse]
theorem length_counter (r : Reader) (x v : Byte) : AnswersInLength (counterReplyLength v) (answerCounter r x v) := by
  intro s; unfold answerCounter; (repeat' split) <;> simp [perform, refuse]

end Sys2Proof.Machine
end

