-- ==== Sys2Proof/Tests/Slice0.lean ====
section
/-! SUPPORT. The model's own tests: the WellFormed smoke test, events of the spec's worked sequences,
and for each statement a state and operands that meet its hypotheses together, clause by clause. -/

namespace Sys2Proof.Tests

open Sys2Proof Sys2Proof.Machine

/-! ### States built for the tests -/

/-- The state that a command answers. -/
def run (c : Instr) (s : State) : State :=
  match exec c s with
  | .next t => t
  | .fault _ | .refused _ => s

/-- A settled hub with BUSY deasserted and nothing else changed since the reset. -/
def calm : State :=
  { State.reset with
    timebase := { Timebase.atReset with state := .settled, settleCounter := 0 }
    busy := { fillActive := false, output := false, minimumHold := .idle } }

/-- The port of `r` open and in COMMAND. -/
def opened (r : Reader) (s : State) : State :=
  { s with ports := s.ports.set r { s.ports.get r with csLow := true, phase := .command } }

/-- The reader in a state. -/
def inState (r : Reader) (x : ReaderState) (s : State) : State := s.modifyReader r fun c => { c with state := x }

/-- The reader's port open, and the reader the token holder. -/
def asHolder (r : Reader) (s : State) : State := (opened r s).withToken (some r)

/-- The trigger port in a frame state, with the fields gathered so far. -/
def inFrame (x : FrameState) (f : Frame) (s : State) : State := s.withTrigger { s.trigger with state := x, frame := f }

/-- A trigger frame of source 1 and class 4 that awaits its check byte, 0x16 (R85). -/
def frame14 : Frame := { Frame.empty with source := 1, cls := 4, sum := 0x44 }

/-- An epoch frame that awaits its check byte, 0x1A (R85). -/
def epochFrame : Frame := { Frame.empty with kind := .epoch, sum := 0x40 }

/-- Sets of readers. -/
def nobody : ReaderSet := ⟨false, false, false, false⟩
def setA : ReaderSet := ⟨true, false, false, false⟩
def setAB : ReaderSet := ⟨true, true, false, false⟩

/-- A plain record. -/
def record (epoch : BitVec 8) (number : BitVec 24) (required taken released : ReaderSet) : EventRecord :=
  { identity := { epoch := epoch, number := number }, runNumber := 0, timestamp := 0, quality := .settled, source := 0, cls := 0,
    tag := none, gap := 0, rule := none, required := required, taken := taken, released := released, sampled := false,
    runStart := false, roll := false, forced := false }

/-- A table of 64 records, each required of A alone. -/
def fullTable : List EventRecord := (List.range 64).map fun n => record 5 (BitVec.ofNat 24 (1000 + n)) setA nobody nobody

/-- A is ATTACHED and holds the head, (0, 0); a second record is available to A. -/
def holding : State :=
  { calm with
    table := [record 0 0 setA setA nobody, record 0 1 setA nobody nobody]
    numbering := { Numbering.atReset with nextNumber := 2 }
    readers := calm.readers.set .a { ReaderContext.atReset with state := .attached, holdList := [⟨0, 0⟩], holdTimer := .untimed } }

/-- The same with a pulse waiting at A's timer, under a policy. -/
def expiring (p : HoldPolicy) : State :=
  holding.modifyReader .a fun c => { c with holdTimer := .pulseDue, settings := { c.settings with holdPolicy := p } }

/-- REFCLK selected and present, with some divider. -/
def external (divider : Nat) (s : State) : State :=
  s.withTimebase { s.timebase with selection := .external, monitor := .present, divider := divider }

/-! ### Well-formed commands -/

/-- A known code is no event of BAD_COMMAND, and the id of a setting with a row of its own none of SET. -/
theorem test_ill_formed_commands :
    (Instr.badCommand .a 0x01).wellFormed = false ∧ (Instr.badCommand .d 0x41).wellFormed = false ∧
      (Instr.set .a 0x04 1).wellFormed = false ∧ (Instr.set .b 0x3C 1).wellFormed = false := by decide

theorem test_well_formed_commands :
    (Instr.badCommand .a 0x00).wellFormed = true ∧ (Instr.badCommand .a 0xFF).wellFormed = true ∧
      (Instr.set .a 0x01 0x3D).wellFormed = true ∧ (Instr.set .b 0x7F 0).wellFormed = true := by decide

/-! ### Events of the worked sequences -/

/-- The four frames of R85 and their check bytes. -/
theorem test_check_bytes_of_R85 :
    (0x08 + 0x50 + 0x02 : Byte) = Config.frameSum ∧ (0x04 + 0x40 + 0x16 : Byte) = Config.frameSum ∧
      (0x2C + 0x90 + 0x12 + 0x34 + 0x58 : Byte) = Config.frameSum ∧ (0x40 + 0x1A : Byte) = Config.frameSum := by decide

/-- The bytes of E2 and E3 of sequence 1 (12.4) gather source 4, class 6 and tag 0x0A0B, with the right sum. -/
theorem test_bytes_of_sequence_1 :
    let s := run (.tagByte 0x0B) (run (.tagByte 0x0A) (run (.classByte 0x60) (run (.headerByte 0x30)
      (run (.addressByte 0x78) (run .startMark calm)))))
    s.trigger.state = .check ∧ s.trigger.frame.source = 4 ∧ s.trigger.frame.cls = 6 ∧
      frameTag s.trigger.frame = some 0x0A0B ∧ s.trigger.frame.sum + 0xB5 = Config.frameSum := by decide

/-- The record of sequence 1 (12.4), as it stands after its entry. -/
def sequenceRecord : EventRecord :=
  { record 2 5000 ⟨true, false, false, true⟩ nobody nobody with
    runNumber := 11, timestamp := 0x123456, source := 4, cls := 6, tag := some 0x0A0B, gap := 2, rule := some 3, sampled := true }

/-- The image that D receives at E4 of sequence 1 (12.4). -/
theorem test_image_of_sequence_1 :
    recordImage sequenceRecord =
      [0x00, 0x13, 0x88, 0x02, 0x00, 0x0B, 0x00, 0x00, 0x00, 0x12, 0x34, 0x56, 0x46, 0x12, 0x0A, 0x0B, 0x02, 0x03, 0x09] := by
  decide

/-- A's HELD reply at E5 of sequence 1 (12.4). -/
theorem test_held_of_sequence_1 :
    heldBytes [⟨2, 4999⟩, ⟨2, 5000⟩] =
      [0x02, 0x02, 0x00, 0x13, 0x87, 0x02, 0x00, 0x13, 0x88, 0, 0, 0, 0, 0, 0, 0, 0] := by decide

/-- A rule never written reads back as R182 says. -/
theorem test_rule_read_after_reset :
    ((run (.ruleRead .a 0) (opened .a calm)).ports.get .a).reply = [0x00, 0x00, 0x00, 0x00, 0x01, 0x01] := by decide

/-- The pulse that ends the minimum hold with no source active deasserts BUSY, and counts (step 4 of 8.6). -/
theorem test_minimum_hold_of_8_6 :
    let s := { calm with busy := { fillActive := false, output := true, minimumHold := .running 1 }
                         timebase := { calm.timebase with count := 10495 } }
    let t := run .minimumHoldExpiry (run .tick s)
    (run .tick s).busy.minimumHold = .pulseDue ∧ t.timebase.count = 10496 ∧ t.counters.busyTicks = 1 ∧
      t.busy = { fillActive := false, output := false, minimumHold := .idle } := by decide

/-- A release of the head lets the frame in HOLDING in, in the same event (step 2 of 5.12). -/
theorem test_stretch_won :
    let s := { holding with
      table := record 5 999 setA setA nobody :: fullTable.tail
      readers := calm.readers.set .a { ReaderContext.atReset with
        state := .attached, holdList := [⟨5, 999⟩], holdTimer := .untimed }
      numbering := { Numbering.atReset with epoch := 5, nextNumber := 1064 } }
    let t := run (.release .a 5 999) (opened .a
      (s.withTrigger { s.trigger with state := .holding, frame := frame14, stretchTimer := .running 2, response := .clockHeld }))
    t.trigger.state = .passive ∧ t.trigger.response = .acknowledged ∧ t.trigger.stretchTimer = .stopped ∧
      t.table.length = 64 ∧ (t.table.getLast?.map (·.identity)) = some ⟨5, 1064⟩ ∧ (t.readers.get .a).causes = 1 := by
  decide +kernel

/-- E7 of sequence 2 (12.5): the drain applies the pending reset and BUSY deasserts in the same event. -/
theorem test_drain_applies_the_reset :
    let s := { holding with
      table := [record 6 810 setA setA nobody, record 6 811 setA nobody setA]
      numbering := { Numbering.atReset with epoch := 6, nextNumber := 812, epochPending := true }
      busy := { fillActive := false, output := true, minimumHold := .elapsed }
      readers := calm.readers.set .a { ReaderContext.atReset with
        state := .attached, holdList := [⟨6, 810⟩], holdTimer := .untimed } }
    let t := run (.releaseOldest .a) (opened .a s)
    t.table = [] ∧ t.numbering.epoch = 7 ∧ t.numbering.nextNumber = 0 ∧ t.numbering.epochPending = false ∧
      (t.readers.get .a).causes = 8 ∧ t.counters.epochChanges = 1 ∧ t.busy.output = false := by decide

/-- Frame 3 of 2.7: the sample is due on a LAPSED reader, which counts a missed record. -/
theorem test_sample_due_on_a_lapsed_reader :
    let rule : RoutingRule :=
      { RoutingRule.atReset with enable := true, patternSource := 1, maskSource := 7, full := setA, sampled := ⟨false, false, true, false⟩,
                                 interval := 3, countdown := 1 }
    let s := inFrame .check frame14 (inState .c .lapsed (inState .a .attached (calm.withRules (calm.rules.set 0 rule))))
    let t := run (.triggerCheckByte 0x16) s
    t.table.map (fun x => (x.rule, x.sampled, x.required)) = [(some 0, true, setA)] ∧ (t.rules.get 0).countdown = 3 ∧
      (t.readers.get .c).missed = 1 ∧ (t.readers.get .a).causes = 1 := by decide

/-! ### States that meet the hypotheses of the statements -/

/-- A state that the invariants describe, with a command waiting: A holds a record at whose timer a pulse waits, its port is open,
and a tagged frame is on its way in. -/
def working : State :=
  { opened .a (inFrame .tag { frame14 with tagged := true, tagBytes := [0x12] } (expiring .lapse)) with
    pending := [.holdExpiry .a] }

theorem test_hypotheses_StepTakesTheFrontCommand :
    working.pending = [.holdExpiry .a] ∧ calm.pending = [] := by decide

theorem test_hypotheses_DeviceResetAndItsRelease : calm.rstLow = false := by decide

theorem test_hypotheses_TickAdvancesTheCount :
    calm.rstLow = false ∧ (run .deviceReset calm).rstLow = true ∧
      (let s := { calm with timebase := { calm.timebase with count := 0xFFFFFFFFFFFF } }
       s.rstLow = false ∧ s.timebase.count = 0xFFFFFFFFFFFF#48 ∧ (run .tick s).timebase.count = 0) := by decide

/-- Every pulse falls on the next tick, and every running timer stands at its last value. -/
def beforePulses : State :=
  { inFrame .holding frame14 (holding.modifyReader .a fun c => { c with holdTimer := .running 1 }) with
    timebase := { calm.timebase with count := 1023 }
    busy := { fillActive := true, output := true, minimumHold := .running 1 } }

def beforePulsesHeld : State := beforePulses.withTrigger { beforePulses.trigger with stretchTimer := .running 1 }

theorem test_hypotheses_TickTakesItsPulses : beforePulsesHeld.rstLow = false ∧ nothingDue beforePulsesHeld :=
  ⟨by decide, fun r => by cases r <;> decide, by decide, by decide⟩

theorem test_tick_marks_the_expiries :
    let t := run .tick beforePulsesHeld
    (t.readers.get .a).holdTimer = .pulseDue ∧ t.trigger.stretchTimer = .pulseDue ∧ t.busy.minimumHold = .pulseDue := by
  decide

/-- The next TICK takes the pulses that wait: the head is forced, its room is the held frame's, and the minimum hold ends. -/
theorem test_tick_takes_the_waiting_pulses :
    let t := run .tick (run .tick beforePulsesHeld)
    t.timebase.count = 1025 ∧ t.counters.forcedReleases.a = 1 ∧ t.trigger.state = .passive ∧ t.counters.busyTicks = 1 := by
  decide

theorem test_hypotheses_HoldExpiryUnderForce :
    let s := expiring .force
    let x := record 0 0 setA setA nobody
    s.rstLow = false ∧ (s.readers.get .a).holdTimer = .pulseDue ∧ (s.readers.get .a).settings.holdPolicy = .force ∧
      (s.readers.get .a).holdList = x.identity :: [] ∧ s.table = [] ++ x :: [record 0 1 setA nobody nobody] ∧
      x.taken.get .a = true ∧ (∀ y ∈ ([] : List EventRecord), y.identity ≠ x.identity) := by decide

theorem test_working_settingsLegal : settingsLegal working := by
  refine ⟨?_, fun r => ?_, ?_⟩
  · unfold Settings.Legal; decide
  · unfold ReaderSettings.Legal; cases r <;> decide
  · unfold RoutingRule.Legal; decide

theorem test_working_tableLegal : tableLegal working := by
  refine ⟨by decide, ?_, ?_, by decide, by decide⟩
  · intro x hx r
    have : x = record 0 0 setA setA nobody ∨ x = record 0 1 setA nobody nobody := by
      revert hx; simp [working, opened, inFrame, expiring, holding, State.withTrigger, State.modifyReader, State.withReaders]
    rcases this with h | h <;> subst h <;> cases r <;> decide
  · intro x hx
    have : record 0 0 setA setA nobody = x := Option.some.inj hx
    subst this; decide

theorem test_working_identitiesConsecutive : identitiesConsecutive working := by
  refine ⟨?_, ?_, by decide⟩
  · show List.IsChain _ [record 0 0 setA setA nobody, record 0 1 setA nobody nobody]
    simp [record, successor]
  · intro x hx
    have : record 0 1 setA nobody nobody = x := Option.some.inj hx
    subst this; decide

theorem test_working_readersMatchTable : readersMatchTable working := by
  intro r; unfold readerMatchesTable
  refine ⟨?_, ?_, ?_, ?_⟩ <;> cases r <;> decide

theorem test_working_timersLegal : timersLegal working := by
  refine ⟨fun r => ⟨?_, ?_⟩, by decide, ?_⟩
  · cases r <;> decide
  · intro v h; cases r <;> exact absurd h (by simp [working, opened, inFrame, expiring, holding, State.withTrigger,
      State.modifyReader, State.withReaders, PerReader.get, PerReader.set, calm, State.reset, State.inReset, PerReader.const,
      ReaderContext.atReset])
  · intro v h; cases h

theorem test_working_busyLegal : busyLegal working := by
  refine ⟨by decide, by decide, ?_, by decide, by decide⟩
  intro v h; cases h

theorem test_working_timebaseLegal : timebaseLegal working := by unfold timebaseLegal; decide

theorem test_working_frameLegal : frameLegal working.trigger := by
  refine ⟨?_, by decide, by decide⟩
  show _ ∧ _ ∧ _
  decide

theorem test_working_portsLegal : portsLegal working := by
  intro r; refine ⟨?_, ?_, ?_, ?_⟩ <;> cases r <;> decide

theorem test_working_resetStands : resetStands working := fun h => absurd h (by decide)

/-- The step of `working` answers a next state; with the theorems above, it meets the hypotheses of every StepKeeps statement. -/
theorem test_hypotheses_StepKeeps : step working = .next (run (.holdExpiry .a) (working.withPending [])) := rfl

theorem test_hypotheses_HoldExpiryUnderLapse :
    working.rstLow = false ∧ (working.readers.get .a).holdTimer = .pulseDue ∧
      (working.readers.get .a).settings.holdPolicy = .lapse ∧ (calm.readers.get .a).holdTimer ≠ .pulseDue := by decide

theorem test_lapse_releases_everything :
    let t := run (.holdExpiry .a) working
    t.table = [] ∧ (t.readers.get .a).state = .lapsed ∧ (t.readers.get .a).causes = 4 ∧ t.counters.forcedReleases.a = 1 := by
  decide

theorem test_hypotheses_MinimumHoldExpiry :
    let s := { calm with busy := { fillActive := false, output := true, minimumHold := .pulseDue } }
    s.rstLow = false ∧ s.busy.minimumHold = .pulseDue ∧ calm.busy.minimumHold ≠ .pulseDue := by decide

/-- A frame in HOLDING with its stretch at the end. -/
def stretchEnded : State :=
  { inFrame .holding frame14 calm with
    table := fullTable
    trigger := { (inFrame .holding frame14 calm).trigger with stretchTimer := .pulseDue, gap := 255 } }

theorem test_hypotheses_StretchExpiryRefusesTheHeldFrame :
    stretchEnded.rstLow = false ∧ stretchEnded.trigger.state = .holding ∧ stretchEnded.trigger.stretchTimer = .pulseDue ∧
      ¬(calm.trigger.state = .holding ∧ calm.trigger.stretchTimer = .pulseDue) ∧
      (run .stretchExpiry stretchEnded).trigger.gap = 255 := by decide

/-- EXTERNAL selected, a settle with some edges left, and some edges since the last tick. -/
def settling (left divider : Nat) : State :=
  external divider { calm with timebase := { calm.timebase with state := .settling, settleCounter := left } }

/-- A settle that ends with the next tick; one whose last edge follows a due tick; one that goes on past it; none. -/
theorem test_hypotheses_SettleCompletes :
    (settling 1 0).rstLow = false ∧ (settling 1 0).timebase.state = .settling ∧ noTickDue (settling 1 0) ∧
      ¬noTickDue (settling 1 1) ∧ calm.timebase.state = .settled ∧
      (run .settleComplete (settling 1 0)).timebase.state = .settled ∧
      ((run .settleComplete (settling 1 0)).readers.get .d).causes = 0x080 ∧
      (run .settleComplete (settling 1 1)).timebase.count = 1 ∧
      (run .settleComplete (settling 1 1)).timebase.state = .settled ∧
      run .settleComplete (settling 2 0) = settling 2 0 ∧ run .settleComplete State.reset = State.reset := by
  unfold noTickDue; decide

theorem test_hypotheses_RefclkEdgeIsSeen :
    calm.rstLow = false ∧ calm.timebase.selection = .internal ∧
      (external 0 calm).timebase.selection = .external ∧ (external 0 calm).timebase.state = .settled ∧
      noTickDue (external 0 calm) ∧ ¬noTickDue (external 1 calm) ∧
      (run .refclkEdge (settling 1 0)).timebase.state = .settled ∧
      (run .refclkEdge (settling 2 0)).timebase.settleCounter = 1 := by
  unfold noTickDue; decide

theorem test_edge_takes_the_due_tick : (run .refclkEdge (external 1 calm)).timebase.count = 1 := by decide

/-- The tick that ends a settle completes it (R105), and a REFERENCE after it finds SETTLED set (row 5 of R109). -/
theorem test_tick_completes_a_settle :
    let s := opened .a (((settling 1 0).withToken (some .a)))
    (run .tick s).timebase.state = .settled ∧ ((run (.reference .a 0) (run .tick s)).readers.get .b).causes = 0x080 ∧
      ((run .settleComplete (run (.reference .a 0) s)).readers.get .b).causes = 0 ∧
      (run .settleComplete (run (.reference .a 0) s)).timebase.settleCounter = 16384 := by decide

/-- A settle whose last edge comes before the tick's own is complete before the coarse pulse, which finds BUSY deasserted; one that ends
with the tick after it (R105, R141). -/
theorem test_settle_ends_before_the_tick :
    let s := fun n : Nat =>
      { calm with
        timebase := { calm.timebase with state := .settling, settleCounter := n, count := 255 }
        settings := { calm.settings with tickPrescale := 7 }
        busy := { fillActive := false, output := true, minimumHold := .elapsed } }
    let ticks := fun n : Nat => (run .tick (s n)).counters.busyTicks
    ticks 1 = 0 ∧ ticks 127 = 0 ∧ ticks 128 = 1 ∧ ticks 129 = 1 ∧ (run .tick (s 127)).busy.output = false ∧
      (run .tick (s 128)).busy.output = false ∧ (run .tick (s 129)).timebase.settleCounter = 1 := by decide

/-- TICK and then SETTLE_COMPLETE on one edge of a settle with uncounted cycles: the edge is counted once, and neither a write of
TICK_PRESCALE nor a switch of reference finds a tick that never came (R101). -/
theorem test_edge_is_counted_once :
    let s := (asHolder .a calm).withTimebase
      { calm.timebase with state := .settling, settleCounter := 100, monitor := .present }
    let cut := run (.setTickPrescale .a 0) (s.withSettings { calm.settings with tickPrescale := 7 })
    let t := opened .a (run .settleComplete (run .tick cut))
    t.timebase.state = .settled ∧ t.timebase.divider = 0 ∧ t.timebase.count = 1 ∧
      (run (.setTickPrescale .a 0) t).timebase.count = 1 ∧ (run (.reference .a 1) t).timebase.count = 1 ∧
      (run .tick t).timebase.count = 2 := by decide

/-- A write of TICK_PRESCALE that cuts a tick of 128 short: a settle that could have ended in the cycles it cut off can be completed at
once, one that could not goes on (R101, R105); with REFCLK selected each edge has its own command, and none is uncounted. -/
theorem test_prescale_cuts_a_tick_in_a_settle :
    let slow := fun n : Nat => (asHolder .a calm).withTimebase { calm.timebase with state := .settling, settleCounter := n }
    let cut := fun n : Nat => run (.setTickPrescale .a 0) ((slow n).withSettings { calm.settings with tickPrescale := 7 })
    (cut 300).timebase.uncounted = 127 ∧ (cut 300).timebase.settleCounter = 300 ∧
      run .settleComplete (cut 300) = cut 300 ∧ (run .settleComplete (cut 128)).timebase.state = .settled ∧
      (run .settleComplete (cut 100)).timebase.state = .settled ∧ (run .settleComplete (cut 100)).timebase.divider = 1 ∧
      (run .settleComplete (run .refclkAbsent (external 0 (cut 100)))).timebase.state = .settling ∧
      (run (.setTickPrescale .a 0) (external 0 (slow 300))).timebase.uncounted = 0 := by decide

/-- The two orders of R111: the last edge first, and the loss first. -/
theorem test_completion_and_loss :
    let first := run .refclkAbsent (run .refclkEdge (settling 1 0))
    let second := run .settleComplete (run .refclkAbsent (settling 1 0))
    (first.readers.get .c).causes = 0x0C0 ∧ (second.readers.get .c).causes = 0x040 ∧ first.timebase.state = .settling ∧
      second.timebase.state = .settling ∧ first.counters.referenceLosses = 1 ∧ second.counters.referenceLosses = 1 := by decide

theorem test_hypotheses_RefclkAbsenceFallsBack :
    ¬(calm.timebase.monitor = .present ∧ calm.timebase.selection = .external) ∧
      ((external 0 calm).rstLow = false ∧ (external 0 calm).timebase.monitor = .present ∧
        (external 0 calm).timebase.selection = .external ∧ noTickDue (external 0 calm) ∧ (external 0 calm).settings.Legal) ∧
      (external 1 calm).timebase.monitor = .present ∧ ¬noTickDue (external 1 calm) := by
  unfold noTickDue Settings.Legal; decide

/-- One state for each of the four clauses, the fill at the marks. -/
theorem test_hypotheses_ReevaluationDrivesBusy :
    let force := fun s : State => s.withSettings { s.settings with forceBusy := true }
    let on := fun (h : MinimumHold) (s : State) => s.withBusy { s.busy with output := true, minimumHold := h }
    (reevaluateBusy (force (on (.running 1) calm))).busy = { fillActive := false, output := true, minimumHold := .running 1 } ∧
      (reevaluateBusy (force calm)).busy = { fillActive := false, output := true, minimumHold := .running 4 } ∧
      (reevaluateBusy (on .elapsed calm)).busy = { fillActive := false, output := false, minimumHold := .idle } ∧
      (reevaluateBusy (on (.running 1) calm)).busy = { fillActive := false, output := true, minimumHold := .running 1 } ∧
      (reevaluateBusy (calm.withTable (fullTable.take 48))).busy.fillActive = true ∧
      (reevaluateBusy ((calm.withTable (fullTable.take 32)).withBusy { calm.busy with fillActive := true })).busy.fillActive = false ∧
      (reevaluateBusy ((calm.withTable (fullTable.take 33)).withBusy { calm.busy with fillActive := true })).busy.fillActive = true := by
  decide +kernel

theorem test_hypotheses_MarksOpenAndEndFrames :
    calm.rstLow = false ∧ calm.trigger.state ≠ .holding ∧ stretchEnded.trigger.state = .holding ∧
      (run .startMark (inFrame .header .empty calm)).counters.badFrames = 1 ∧
      (run .stopMark (inFrame .check frame14 calm)).counters.badFrames = 1 ∧
      (run .stopMark (inFrame .address .empty calm)).counters.badFrames = 0 ∧ clockHeldLow calm = false ∧
      clockHeldLow stretchEnded = true := by decide

/-- The six rows of R81: own address, both directions; broadcast, with the setting on and off; a status read at address 0; another. -/
theorem test_hypotheses_AddressByteIsJudged :
    let s := inFrame .address .empty calm
    let off := s.withTrigger { s.trigger with capturedBroadcast := false }
    (s.rstLow = false ∧ s.trigger.state = .address ∧ frameLegal s.trigger) ∧
      ((run (.addressByte 0x78) s).trigger.state = .header ∧ (run (.addressByte 0x79) s).trigger.state = .sending ∧
        (run (.addressByte 0x00) s).trigger.state = .header ∧ (run (.addressByte 0x00) off).trigger.state = .passive ∧
        (run (.addressByte 0x01) s).trigger.state = .passive ∧ (run (.addressByte 0x7A) s).trigger.state = .passive) := by
  refine ⟨⟨by decide, by decide, ⟨?_, by decide, by decide⟩⟩, by decide⟩
  show _ = _
  decide

theorem test_hypotheses_HeaderByteIsJudged :
    let s := inFrame .header .empty calm
    (s.rstLow = false ∧ s.trigger.state = .header) ∧ (0x3C : Byte) &&& 0xC3 = 0 ∧ (0x5C : Byte) &&& 0xE3 = 0x40 ∧
      ((0x60 : Byte) &&& 0xC3 ≠ 0 ∧ (0x60 : Byte) &&& 0xE3 ≠ 0x40) ∧ (run (.headerByte 0x01) s).counters.badFrames = 1 := by
  decide

theorem test_hypotheses_ClassAndTagBytesAreGathered :
    (inFrame .classByte .empty calm).trigger.state = .classByte ∧ (0xF0 : Byte) &&& 0x0F = 0 ∧ (0x01 : Byte) &&& 0x0F ≠ 0 ∧
      working.trigger.state = .tag ∧ calm.rstLow = false ∧
      (let f := (run (.tagByte 0x34) working).trigger.frame
       f.tagged = true ∧ f.tagBytes = [0x12, 0x34] ∧ frameTag f = some 0x1234) ∧
      (frame14.tagged = false ∧ frameTag frame14 = none ∧ frameTag { frame14 with tagged := true, tagBytes := [0, 0] } = some 0) ∧
      run (.addressByte 0x78) calm = calm.withTrigger { calm.trigger with response := .notAcknowledged } ∧
      run (.classByte 0x10) stretchEnded = stretchEnded := by decide

/-- One state for each outcome of a trigger frame's check byte: bad, refused for the epoch, refused for the table, held. -/
theorem test_hypotheses_TriggerCheckByteRefusesOrHolds :
    let s := inFrame .check frame14 calm
    let pending := s.withNumbering { s.numbering with epochPending := true }
    let full := s.withTable fullTable
    let impatient := full.withSettings { full.settings with stretchLimit := 0 }
    (s.rstLow = false ∧ s.trigger.state = .check ∧ s.trigger.frame.kind = .trigger ∧ s.trigger.frame.sum + 0x16 = 0x5A ∧
        s.trigger.frame.sum + 0x17 ≠ 0x5A ∧ full.table.length = 64) ∧
      (run (.triggerCheckByte 0x17) s).counters.badFrames = 1 ∧ (run (.triggerCheckByte 0x16) pending).counters.refusedEpoch = 1 ∧
      (run (.triggerCheckByte 0x16) impatient).counters.refusedFull = 1 ∧
      (run (.triggerCheckByte 0x16) full).trigger.stretchTimer = .running 16 := by decide +kernel

/-- Entry with 63 records live, and for a waiting frame; with 64, or no waiting frame, none. -/
theorem test_hypotheses_EntryMakesTheRecord :
    let s := (inFrame .check frame14 calm).withTable fullTable.tail
    let waiting := (inFrame .holding frame14 calm).withTable fullTable.tail
    (s.rstLow = false ∧ s.trigger.state = .check ∧ s.trigger.frame.kind = .trigger ∧ s.trigger.frame.sum + 0x16 = 0x5A ∧
        s.numbering.epochPending = false ∧ s.table.length < 64) ∧
      (waiting.rstLow = false ∧ waiting.trigger.state = .holding ∧ waiting.table.length < 64) ∧
      ¬(stretchEnded.trigger.state = .holding ∧ stretchEnded.table.length < 64) ∧
      (run (.triggerCheckByte 0x16) s).table.length = 64 ∧ (run .holdingEntry waiting).counters.triggersAccepted = 1 := by
  decide +kernel

theorem test_hypotheses_EpochCheckByteIsDecided :
    let s := inFrame .check epochFrame calm
    let commanded := s.withSettings { s.settings with epochSource := .command }
    let drained := run (.epochCheckByte 0x1A) s
    let waits := run (.epochCheckByte 0x1A) (s.withTable [record 0 0 setA nobody nobody])
    (s.rstLow = false ∧ s.trigger.state = .check ∧ s.trigger.frame.kind = .epoch ∧ s.trigger.frame.sum + 0x1A = 0x5A ∧
        s.trigger.frame.sum + 0x1B ≠ 0x5A ∧ s.settings.epochSource = .bus ∧ s.numbering.epochPending = false ∧ s.table = []) ∧
      (run (.epochCheckByte 0x1A) commanded).trigger.response = .notAcknowledged ∧ drained.numbering.epoch = 1 ∧
      waits.numbering.epochPending = true ∧
      run (.epochCheckByte 0x1A) (inFrame .check epochFrame waits) =
        { waits with trigger := passive .acknowledged waits.trigger } := by decide

theorem test_hypotheses_StatusReadSendsTheLatchedBytes :
    let s := run (.addressByte 0x79) (run .startMark { calm with busy := { calm.busy with output := true } })
    s.rstLow = false ∧ s.trigger.state = .sending ∧ s.trigger.statusBytes = [0x80, 0x00] ∧
      (run (.statusReadByte false) s).trigger.state = .passive ∧ calm.trigger.state ≠ .sending ∧
      run (.statusReadByte true) calm = calm := by decide

theorem test_hypotheses_TransactionsOpenAndEnd :
    (calm.rstLow = false ∧ (calm.ports.get .a).csLow = false) ∧
      ((run .deviceReset calm).rstLow = true ∧ ((run .deviceReset calm).ports.get .b).csLow = false) ∧
      (run (.transactionOpen .c) (run .resetRelease (run .deviceReset (opened .c calm)))).ports.get .c = .idleAt true ∧
      ((opened .c calm).ports.get .c).csLow = true ∧ calm.ports.get .d = .idleAt false ∧
      ((run (.transactionOpen .a) (holding.modifyReader .a fun c => { c with causes := 1 })).ports.get .a).header = 0x91 := by
  decide

theorem test_takesCommand (r : Reader) : takesCommand r (opened r calm) ∧ takesCommand r (asHolder r calm) := by
  cases r <;> exact ⟨⟨rfl, rfl⟩, ⟨rfl, rfl⟩⟩

theorem test_hypotheses_CommandBytesNameTheCommand :
    (0x00 : Byte).toNat ∉ [0x01, 0x02, 0x03, 0x10, 0x11, 0x12, 0x13, 0x20, 0x21, 0x22, 0x23, 0x24, 0x30, 0x31, 0x32, 0x33, 0x34,
      0x35, 0x38, 0x39, 0x3A, 0x40, 0x41] ∧
      argumentCount 0x11 = [(2 : Byte), 0x00, 0x13, 0x87].length ∧ argumentCount 0x42 = 0 ∧
      readerOf (.setAttnMask .a .c 7) = some .a ∧ (Instr.setAttnMask .a .c 7).wellFormed = true ∧
      ((run (.badCommand .a 0x42) (opened .a calm)).ports.get .a).status = some .badCommand := by decide

/-- Bytes of the worked sequences and of each shape of the index, and the commands they name. -/
theorem test_commands_of_bytes :
    commandOfBytes .a 0x11 [2, 0x00, 0x13, 0x87] = some (.release .a 2 4999) ∧ commandOfBytes .b 0x13 [] = some (.held .b) ∧
      commandOfBytes .b 0x15 [] = some (.badCommand .b 0x15) ∧ commandOfBytes .a 0x3A [1] = some (.reference .a 1) ∧
      commandOfBytes .d 0x40 [15, 1] = some (.counter .d 15 1) ∧ commandOfBytes .c 0x32 [0x0D, 0, 7] = some (.setTickPrescale .c 7) ∧
      commandOfBytes .c 0x32 [0x2C, 1, 0xFF] = some (.setAttnMask .c .b 0x1FF) ∧
      commandOfBytes .c 0x32 [0x01, 0, 0x3D] = some (.set .c 0x01 0x3D) ∧
      commandOfBytes .a 0x34 [7, 1, 0x7F, 0, 0xFF, 0] = some (.ruleWrite .a 7 1 0x7F 0 0xFF 0) ∧
      commandOfBytes .a 0x11 [2, 0x00] = none := by decide

theorem test_hypotheses_OnlyTheCallersPortAnswers :
    readerOf (.take .b) = some .b ∧ run (.take .b) (opened .c calm) = opened .c calm := by decide

theorem test_hypotheses_RefusedCommandChangesNothing :
    readerOf (.take .b) = some .b ∧ (Instr.take .b).wellFormed = true ∧
      ((run (.take .b) (opened .b calm)).ports.get .b).status = some .badState ∧
      ((run (.take .b) (opened .b calm)).ports.get .b).reply = List.replicate 19 0 := by decide

/-- T3 of 9.8: HELD with one record, as the port sends it. -/
theorem test_hypotheses_PortSendsStatusAndReply :
    readerOf (.held .b) = some .b ∧ (Instr.held .b).wellFormed = true ∧
      sentBytes ((run (.held .b) (run (.transactionOpen .b) (calm.modifyReader .b fun c => { c with
        state := .attached, holdList := [⟨4, 300⟩], causes := 1 }))).ports.get .b) =
        [0x90, 0x00, 0x00, 0x01, 0x04, 0x00, 0x01, 0x2C, 0, 0, 0, 0, 0, 0, 0, 0, 0, 0, 0, 0] := by decide

/-- The phases of GET, byte by byte (R144): its command byte, its argument, then one step with no command for each byte sent. -/
theorem test_phases_of_a_transaction :
    let port := fun s : State => s.ports.get .a
    let idle := fun s : State => match step s with
      | .next t => t
      | .fault _ | .refused _ => s
    let s := run (.get .a 0x3C) (opened .a calm)
    (arrive (port (opened .a calm)) 0x33).phase = .arguments ∧
      (List.range 6).map (fun k => ((port (idle^[k] s)).phase, sendingByte (port (idle^[k] s)))) =
        [(.turnaround, 0x00), (.status, 0x00), (.reply, 0x01), (.reply, 0xFF), (.trailing, 0x00), (.trailing, 0x00)] ∧
      port (idle (opened .a calm)) = port (opened .a calm) := by decide

/-- STATUS of a settled hub with nothing in it, after A attached: state, no record, no holder, quiet, SETTLED. -/
theorem test_hypotheses_StatusReportsTheHub :
    (((calm.withTable fullTable).table.filter fun x => x.required.get .a && !x.taken.get .a && !x.released.get .a).length = 64) ∧
      ((run (.status .a) (opened .a (inState .a .attached calm))).ports.get .a).reply =
        [1, 0, 0, 0, 0, 0, 0, 0, 1, 0, 0, 0, 0] := by decide +kernel

theorem test_time_reply :
    ((run (.time .d) (opened .d { calm with timebase := { calm.timebase with count := 0x123456 } })).ports.get .d).reply =
      [0, 0, 0, 0x12, 0x34, 0x56, 0x01, 0, 0, 0, 0] := by decide

theorem test_hypotheses_HeldGetAndRuleReadReport :
    (holding.readers.get .a).holdList = [⟨0, 0⟩] ∧ settingOfId 0x3C = some (.ofReader .d .attnMask) ∧ settingOfId 0x10 = none ∧
      7 < (0x08 : Byte).toNat ∧ ((run (.get .a 0x3C) (opened .a calm)).ports.get .a).reply = [0x01, 0xFF] := by decide

theorem test_hypotheses_CausesCollectsTheSet :
    let s := (opened .a calm).modifyReader .a fun c => { c with causes := 0x1FF }
    ((run (.causes .a) s).ports.get .a).reply = [0x01, 0xFF] ∧ attnAsserted .a s = true ∧
      attnAsserted .a (run (.causes .a) s) = false ∧ ((opened .a calm).readers.get .a).causes = 0 := by decide

/-- One state for each answer of TAKE. -/
theorem test_hypotheses_TakeTakesTheOldestAvailable :
    let x := record 0 1 setA nobody nobody
    let shallow := holding.modifyReader .a fun c => { c with settings := { c.settings with holdDepth := 1 } }
    (holding.table = [record 0 0 setA setA nobody] ++ x :: [] ∧ availableTo .a (record 0 0 setA setA nobody) = false ∧
        availableTo .a x = true ∧ (holding.readers.get .a).state = .attached ∧
        (holding.readers.get .a).holdList.length < (holding.readers.get .a).settings.holdDepth) ∧
      ((run (.take .a) (opened .a holding)).readers.get .a).holdList = [⟨0, 0⟩, ⟨0, 1⟩] ∧
      ((run (.take .b) (opened .b holding)).ports.get .b).status = some .badState ∧
      ((run (.take .a) (opened .a shallow)).ports.get .a).status = some .holdFull ∧
      ((run (.take .b) (opened .b (inState .b .attached holding))).ports.get .b).status = some .empty := by decide

/-- A release from the middle of the list, of the first entry, and the two refusals. -/
theorem test_hypotheses_ReleaseLetsTheRecordGo :
    let s := opened .a (run (.take .a) (opened .a holding))
    ((s.readers.get .a).state = .attached ∧ (s.readers.get .a).holdList = [⟨0, 0⟩] ++ (⟨0, 1⟩ : Identity) :: [] ∧
        (⟨0, 1⟩ : Identity) ∉ [(⟨0, 0⟩ : Identity)] ∧
        s.table = [record 0 0 setA setA nobody] ++ record 0 1 setA setA nobody :: [] ∧
        (record 0 1 setA setA nobody).taken.get .a = true) ∧
      (run (.release .a 0 1) s).table = [record 0 0 setA setA nobody, record 0 1 setA nobody setA] ∧
      (run (.releaseOldest .a) s).table = [record 0 1 setA setA nobody] ∧
      (run (.releaseOldest .a) (opened .a (run (.release .a 0 1) s))).table = [] ∧
      ((run (.release .a 0 7) s).ports.get .a).status = some .notHeld ∧
      ((run (.releaseOldest .b) (opened .b (inState .b .attached s))).ports.get .b).status = some .notHeld ∧
      ((run (.release .b 0 1) (opened .b s)).ports.get .b).status = some .badState := by decide

/-- A release that meets the pulse at its timer leaves the new first entry n − 1 (R68), with a limit of 1 the pulse itself;
a new HOLD_CLOCK judges the pulse again (R75). -/
theorem test_release_meets_a_pulse :
    let limited := fun n : Nat => (holding.modifyReader .a fun c => { c with
      holdTimer := .pulseDue, settings := { c.settings with holdLimit := n } })
    let after := fun n : Nat => ((run (.releaseOldest .a) (opened .a (run (.transactionEnd .a)
      (run (.take .a) (opened .a (limited n)))))).readers.get .a).holdTimer
    after 5 = .running 4 ∧ after 1 = .pulseDue ∧ after 0 = .untimed ∧
      ((run (.releaseOldest .a) (opened .a (limited 5))).readers.get .a).holdTimer = .stopped ∧
      (let s := { asHolder .a (limited 5) with timebase := { calm.timebase with count := 1024 } }
       ((run (.set .a 0x21 4) s).readers.get .a).holdTimer = .running 1 ∧
         ((run (.set .a 0x21 1) s).readers.get .a).holdTimer = .pulseDue) := by decide

/-- A head that waits; a complete head with a complete record behind it and one that waits; and a frame that then enters. -/
theorem test_hypotheses_CascadeRetiresFromTheHead :
    let gone := [record 0 0 setA nobody setA, record 0 1 setAB nobody setAB]
    let rest := [record 0 2 setA nobody nobody]
    let s := calm.withTable (gone ++ rest)
    let waiting := inFrame .holding frame14 s
    (∀ x ∈ holding.table.head?, x.released ≠ x.required) ∧ (∀ x ∈ gone, x.released = x.required) ∧ gone ≠ [] ∧
      (∀ x ∈ rest.head?, x.released ≠ x.required) ∧ s.trigger.state ≠ .holding ∧ waiting.trigger.state = .holding ∧
      rest.length < 64 ∧ (cascade s).table = rest ∧ (cascade waiting).table.length = 2 := by decide

theorem test_hypotheses_AttachDetachResumeDeclare :
    let lapsed := inState .a .lapsed calm
    (calm.readers.get .a).state = .detached ∧ (lapsed.readers.get .a).state = .lapsed ∧
      (holding.readers.get .a).state ≠ .detached ∧ (holding.readers.get .a).state ≠ .lapsed ∧
      (calm.readers.get .a).declaredBusy ≠ true ∧ (calm.readers.get .a).declaredBusy = false ∧ 1 < (2 : Byte).toNat ∧
      (run (.declareBusy .a 1) (opened .a holding)).busy.output = true ∧
      (run (.detach .a) (opened .a holding)).table = [] ∧
      ((run (.resume .a) (opened .a lapsed)).readers.get .a).state = .attached := by decide

theorem test_reader_reset_frees_the_token :
    let t := run (.readerReset .a) (asHolder .a holding)
    t.token = none ∧ t.table = [] ∧ t.readers.get .a = ReaderContext.atReset := by decide

/-- The four rows of R158, the holder of the last two ATTACHED and not. -/
theorem test_hypotheses_ClaimIsDecidedByTheHolder :
    let s := opened .b (holding.withToken (some .a))
    let away := opened .b (calm.withToken (some .a))
    (opened .b calm).token = none ∧ (asHolder .b calm).token = some .b ∧ (s.token = some .a ∧ (s.readers.get .a).state = .attached) ∧
      (away.token = some .a ∧ (away.readers.get .a).state ≠ .attached ∧ (away.readers.get .a).settings.attnMask.getLsbD 8 = true) ∧
      ((run (.claim .b) s).ports.get .b).status = some .tokenTaken ∧ (run (.claim .b) away).token = some .b ∧
      ((run (.claim .b) away).readers.get .a).causes = 0x100 := by decide

theorem test_hypotheses_YieldFreesTheToken :
    (asHolder .a calm).token = some .a ∧ (opened .b (asHolder .a calm)).token ≠ some .b ∧
      (run (.yield .a) (asHolder .a calm)).token = none := by decide

/-- One state and value for each answer of SET, at the ends of ranges. -/
theorem test_hypotheses_SetStoresTheValue :
    let s := asHolder .a calm
    (s.token = some .a ∧ (opened .b s).token ≠ some .b ∧ settingOfId 0x01 = some (.shared .busAddress) ∧ settingOfId 0x25 = none ∧
        settingOfId (attnMaskId .b) = some (.ofReader .b .attnMask)) ∧
      (run (.set .a 0x01 0x77) s).settings.busAddress = 0x77 ∧ ((run (.set .a 0x01 0x78) s).ports.get .a).status = some .badValue ∧
      ((run (.set .a 0x25 0) s).ports.get .a).status = some .badIndex ∧
      ((run (.set .b 0x01 8) (opened .b s)).ports.get .b).status = some .notHolder ∧
      ((run (.setAttnMask .b .b 0) (opened .b s)).readers.get .b).settings.attnMask = 0 := by decide

theorem test_hypotheses_SetsThatActAtOnce :
    let s := asHolder .a calm
    s.token = some .a ∧ noTickDue s ∧ ¬noTickDue (external 1 s) ∧ s.settings.busyLow < 33 ∧ 47 < s.settings.busyHigh ∧
      (run (.setBusyHigh .a 33) s).settings.busyHigh = 33 ∧ ((run (.setBusyHigh .a 32) s).ports.get .a).status = some .badValue ∧
      (run (.setBusyLow .a 47) s).settings.busyLow = 47 ∧ ((run (.setBusyLow .a 48) s).ports.get .a).status = some .badValue ∧
      (run (.setForceBusy .a 1) s).busy.output = true ∧ (run (.setSettleBusy .a 0) s).settings.settleBusy = false ∧
      (run (.setTickPrescale .a 7) (external 1 s)).timebase.count = 1 ∧ (run (.setTickPrescale .a 7) s).timebase.count = 0 ∧
      (run (.setRunNumber .a 0xFFFF) s).numbering.runNumber = 0xFFFF := by
  unfold noTickDue; decide

theorem test_hypotheses_RuleMatchesComparedBits :
    let x : RoutingRule := { RoutingRule.atReset with enable := true, patternSource := 5, patternClass := 9 }
    ruleMatches x 0 0 = true ∧ ruleMatches { x with maskSource := 7, maskClass := 15 } 5 9 = true ∧
      ruleMatches { x with maskSource := 7, maskClass := 15 } 5 8 = false ∧ ruleMatches RoutingRule.atReset 0 0 = false ∧
      (1 : Byte).toNat ≤ 1 ∧ (0x7F : Byte).toNat < 128 ∧
      (run (.ruleWrite .a 7 1 0x7F 0x00 0xFF 0xFF) (asHolder .a calm)).rules.get 7 = ruleOf 1 0x7F 0x00 0xFF 0xFF := by decide

/-- A sample is due at the third and the sixth match of an interval of 3, and at every match of an interval of 1. -/
theorem test_hypotheses_SamplingFollowsTheCountdown :
    let x : RoutingRule := { RoutingRule.atReset with interval := 3, countdown := 3 }
    (x.interval = 3 ∧ x.countdown = 3) ∧
      (List.range 6).map (fun k => sampleDue (advanceCountdown^[k] x)) = [false, false, true, false, false, true] ∧
      sampleDue RoutingRule.atReset = true ∧ advanceCountdown RoutingRule.atReset = RoutingRule.atReset := by decide

theorem test_hypotheses_RuleWriteReplacesTheRule :
    let s := asHolder .a calm
    (s.token = some .a ∧ (7 : Byte).toNat = (7 : Fin 8).val ∧ 7 < (8 : Byte).toNat) ∧
      (run (.ruleWrite .a 7 1 0x7F 0x7F 0x90 0) s).rules.get 7 =
        { enable := true, patternSource := 7, patternClass := 15, maskSource := 7, maskClass := 15,
          full := ⟨true, false, false, true⟩, sampled := nobody, interval := 256, countdown := 256 } ∧
      ((run (.ruleWrite .a 8 1 0 0 0 0) s).ports.get .a).status = some .badIndex ∧
      ((run (.ruleWrite .a 7 2 0 0 0 0) s).ports.get .a).status = some .badValue ∧
      ((run (.ruleWrite .a 7 1 0x80 0 0 0) s).ports.get .a).status = some .badValue ∧
      ((run (.ruleWrite .b 7 1 0 0 0 0) (opened .b s)).ports.get .b).status = some .notHolder := by decide

theorem test_hypotheses_EpochResetIsApplied :
    let commanded := (asHolder .a calm).withSettings { calm.settings with epochSource := .command }
    let pending := calm.withNumbering { calm.numbering with epochPending := true }
    (pending.rstLow = false ∧ pending.numbering.epochPending = true ∧ pending.table = []) ∧
      ¬(calm.numbering.epochPending = true ∧ calm.table = []) ∧
      ((run (.epoch .b) (opened .b commanded)).ports.get .b).status = some .notHolder ∧
      ((run (.epoch .a) (asHolder .a calm)).ports.get .a).status = some .badState ∧
      ((run (.epoch .a) (commanded.withTable holding.table)).ports.get .a).status = some .notDrained ∧
      (run (.epoch .a) commanded).numbering.epoch = 1 ∧ (run .epochReset pending).numbering.epoch = 1 := by decide

theorem test_hypotheses_ClearEmptiesTheTable :
    let s := asHolder .a holding
    let waiting := inFrame .holding frame14 s
    (s.token = some .a ∧ s.trigger.state ≠ .holding ∧ waiting.trigger.state = .holding ∧ (opened .b s).token ≠ some .b) ∧
      (run (.clear .a) s).table = [] ∧ ((run (.clear .a) s).readers.get .a).causes = 0x020 ∧
      (run (.clear .a) waiting).table.length = 1 := by decide

theorem test_hypotheses_ReferenceSwitches :
    let s := asHolder .a calm
    let present := s.withTimebase { s.timebase with monitor := .present }
    (s.token = some .a ∧ 1 < (2 : Byte).toNat ∧ s.timebase.selection = .internal ∧ s.timebase.monitor = .absent ∧
        present.timebase.selection ≠ .external ∧ present.timebase.monitor = .present ∧ noTickDue present ∧
        ¬noTickDue (external 1 s) ∧ (external 1 s).timebase.selection ≠ .internal) ∧
      ((run (.reference .a 1) s).ports.get .a).status = some .noReference ∧
      (run (.reference .a 1) present).timebase.settleCounter = 16384 ∧
      (run (.reference .a 0) (external 1 s)).timebase.count = 1 := by
  unfold noTickDue; decide

theorem test_hypotheses_CounterReadsOneCounter :
    let s := opened .a { calm with counters := { Counters.zero with takes := ⟨0, 0, 0, 0xFFFFFFFFFF⟩ } }
    let closed := s.withSettings { s.settings with countersOpen := false }
    ((run (.counter .a 15 1) s).ports.get .a).reply = [0xFF, 0xFF, 0xFF, 0xFF, 0xFF] ∧
      ((run (.counter .a 15 0) s).ports.get .a).reply = [0xFF, 0xFF, 0xFF, 0xFF] ∧
      ((run (.counter .a 16 0) s).ports.get .a).status = some .badIndex ∧
      ((run (.counter .a 15 2) s).ports.get .a).status = some .badValue ∧
      ((run (.counter .a 15 1) closed).ports.get .a).status = some .notHolder ∧
      ((run (.counter .a 15 1) closed).ports.get .a).reply = [0, 0, 0, 0, 0] ∧
      ((run (.counter .a 15 1) (asHolder .a closed)).ports.get .a).status = some .ok := by decide

theorem test_hypotheses_ClearCountersZeroesTheBank :
    let s := asHolder .a { calm with counters := { Counters.zero with badFrames := 7 } }
    (s.token = some .a ∧ (opened .b s).token ≠ some .b) ∧ (run (.clearCounters .a) s).counters = Counters.zero ∧
      (∀ i, i < 16 → counterValue (asHolder .a calm).counters i = 0) := by decide

end Sys2Proof.Tests
end

section
/-! SUPPORT. The event table's part of every event: the few moves that a step can make in the table, the numbering unit and the
waiting frame. Every invariant of the table is proved move by move, and no proof of one unfolds a command. -/

namespace Sys2Proof.Machine

/-! ### Single records -/

/-- `y` is the record `x`, or `x` with a reader out of its taken set or into its released set (R17, R18, R19). -/
def LetsGo (x y : EventRecord) : Prop := y.identity = x.identity ∧ (x.Legal → y.Legal)

/-- `y` is the record `x`, or `x` with a reader more in its taken set (R16): it waits as `x` does. -/
def KeepsWaiting (x y : EventRecord) : Prop := LetsGo x y ∧ complete y = complete x

theorem LetsGo.refl (x : EventRecord) : LetsGo x x := ⟨rfl, id⟩

theorem LetsGo.trans {x y z : EventRecord} (h : LetsGo x y) (h' : LetsGo y z) : LetsGo x z :=
  ⟨h'.1.trans h.1, h'.2 ∘ h.2⟩

theorem KeepsWaiting.refl (x : EventRecord) : KeepsWaiting x x := ⟨.refl x, rfl⟩

theorem takeRecord_legal {r : Reader} {x : EventRecord} (h : availableTo r x = true) (hx : x.Legal) :
    (takeRecord r x).Legal := by
  obtain ⟨⟨hreq, -⟩, hrel⟩ : (x.required.get r = true ∧ _) ∧ x.released.get r = false := by
    simpa [availableTo] using h
  intro q
  by_cases hq : q = r
  · subst hq; simp [takeRecord, hreq, hrel]
  · simpa [takeRecord, hq] using hx q

theorem releaseRecord_legal {r : Reader} {x : EventRecord} (h : x.required.get r = true) (hx : x.Legal) :
    (releaseRecord r x).Legal := by
  intro q
  by_cases hq : q = r
  · subst hq; simp [releaseRecord, h]
  · simpa [releaseRecord, hq] using hx q

theorem keepsWaiting_takeRecord {r : Reader} {x : EventRecord} (h : availableTo r x = true) :
    KeepsWaiting x (takeRecord r x) := ⟨⟨rfl, takeRecord_legal h⟩, rfl⟩

/-- A reader holds only records that require it (R14). -/
theorem required_of_heldAs {r : Reader} {id : Identity} {x : EventRecord} (h : heldAs r id x = true) (hx : x.Legal) :
    x.required.get r = true := by
  have htaken : x.taken.get r = true := by simp only [heldAs, Bool.and_eq_true] at h; exact h.2
  exact ((hx r).1 htaken).1

theorem letsGo_releaseRecord {r : Reader} {id : Identity} {x : EventRecord} (h : heldAs r id x = true) :
    LetsGo x (releaseRecord r x) := ⟨rfl, fun hx => releaseRecord_legal (required_of_heldAs h hx) hx⟩

/-- FORCED has no part in what makes a record legal. -/
theorem letsGo_forceReleaseRecord {r : Reader} {id : Identity} {x : EventRecord} (h : heldAs r id x = true) :
    LetsGo x (forceReleaseRecord r x) := letsGo_releaseRecord h

/-! ### The whole table -/

theorem forall₂_modifyFirst {α : Type} {R : α → α → Prop} {p : α → Bool} {f : α → α} (hrefl : ∀ x, R x x)
    (hf : ∀ x, p x = true → R x (f x)) (l : List α) : List.Forall₂ R l (modifyFirst p f l) := by
  induction l with
  | nil => exact .nil
  | cons x l ih =>
    by_cases hx : p x = true
    · simpa [modifyFirst, hx] using ⟨hf x hx, fun y _ => hrefl y⟩
    · simpa [modifyFirst, hx] using ⟨hrefl x, ih⟩

theorem letsGo_releaseIn (r : Reader) (id : Identity) (l : List EventRecord) : List.Forall₂ LetsGo l (releaseIn r id l) :=
  forall₂_modifyFirst .refl (fun _ => letsGo_releaseRecord) l

theorem letsGo_forceReleaseIn (r : Reader) (id : Identity) (l : List EventRecord) :
    List.Forall₂ LetsGo l (forceReleaseIn r id l) :=
  forall₂_modifyFirst .refl (fun _ => letsGo_forceReleaseRecord) l

theorem letsGo_massReleaseIn (r : Reader) (l : List EventRecord) : List.Forall₂ LetsGo l (massReleaseIn r l) := by
  refine List.forall₂_map_right_iff.mpr (List.forall₂_same.mpr fun x _ => ?_)
  split
  · exact ⟨rfl, releaseRecord_legal ‹_›⟩
  · exact .refl x

theorem letsGo_trans {l m n : List EventRecord} (h : List.Forall₂ LetsGo l m) (h' : List.Forall₂ LetsGo m n) :
    List.Forall₂ LetsGo l n := by
  induction h generalizing n with
  | nil => exact h'
  | cons hx _ ih =>
    cases h' with
    | cons hy ht => exact .cons (hx.trans hy) (ih ht)

/-- Every record a reader holds released by force, one after another (R72). -/
theorem letsGo_forceReleaseAll (r : Reader) (held : List Identity) (l : List EventRecord) :
    List.Forall₂ LetsGo l (held.foldl (fun t id => forceReleaseIn r id t) l) := by
  induction held generalizing l with
  | nil => exact List.forall₂_same.mpr fun x _ => .refl x
  | cons id held ih => exact letsGo_trans (letsGo_forceReleaseIn r id l) (ih _)

theorem keepsWaiting_same (l : List EventRecord) : List.Forall₂ KeepsWaiting l l :=
  List.forall₂_same.mpr fun x _ => .refl x

/-! ### The moves -/

/-- Around the table nothing has changed: the numbers to come, a pending reset and the roll mark, and no frame has come
to wait. -/
structure SameAround (s t : State) : Prop where
  next     : nextIdentity t = nextIdentity s
  pending  : t.numbering.epochPending = s.numbering.epochPending
  rollMark : t.numbering.rollMark = s.numbering.rollMark
  holding  : t.trigger.state = .holding → s.trigger.state = .holding

/-- What an event can do to the table and to what stands around it. -/
inductive TableMove (s : State) : State → Prop
  /-- Every record waits as before. -/
  | keeps {t : State} (around : SameAround s t) (records : List.Forall₂ KeepsWaiting s.table t.table) : TableMove s t
  /-- Readers are done with records, and the table retires what that completes (R17 to R22). -/
  | retires {u : State} (around : SameAround s u) (records : List.Forall₂ LetsGo s.table u.table) : TableMove s (cascade u)
  /-- The frame in the port enters where a slot is free (R12). -/
  | enters (room : fill s < 64) : TableMove s (acceptFrame s)
  /-- A full table lets the frame wait (R88, R91). -/
  | holds (full : 64 ≤ fill s) (free : s.numbering.epochPending = false) : TableMove s (holdFrame s)
  /-- An epoch reset waits for the table to drain (R121). -/
  | awaits (live : s.table ≠ []) (free : s.trigger.state ≠ .holding) :
    TableMove s (s.withNumbering { s.numbering with epochPending := true })
  /-- An epoch reset is applied to an empty table (R122). -/
  | resets (empty : s.table = []) : TableMove s (applyEpochReset s)
  /-- A hub clear (R24). -/
  | clears : TableMove s (hubClear s)
  /-- A device reset (R1, R117). -/
  | restarts : TableMove s (State.inReset s.pending (csLevels s))

/-- Moves one after another: an event may hold several expiries (log entry 4). -/
def TableMoves : State → State → Prop := Relation.ReflTransGen TableMove

/-- What every move keeps, moves one after another keep. -/
theorem TableMoves.invariant {P : State → Prop} (hP : ∀ s t, TableMove s t → P s → P t) {s t : State}
    (h : TableMoves s t) (hs : P s) : P t := by
  induction h with
  | refl => exact hs
  | tail _ hm ih => exact hP _ _ hm ih

theorem TableMove.moves {s t : State} (h : TableMove s t) : TableMoves s t := .single h

theorem TableMoves.refl (s : State) : TableMoves s s := Relation.ReflTransGen.refl

theorem TableMoves.trans {s t u : State} (h : TableMoves s t) (h' : TableMoves t u) : TableMoves s u :=
  Relation.ReflTransGen.trans h h'

theorem sameAround_of_eq {s t : State} (hn : t.numbering = s.numbering)
    (hp : t.trigger.state = .holding → s.trigger.state = .holding) : SameAround s t :=
  ⟨by simp [nextIdentity, hn], by rw [hn], by rw [hn], hp⟩

theorem tableMoves_keeps {s t : State} (around : SameAround s t) (records : List.Forall₂ KeepsWaiting s.table t.table) :
    TableMoves s t := (TableMove.keeps around records).moves

theorem tableMoves_cascade {s u : State} (around : SameAround s u) (records : List.Forall₂ LetsGo s.table u.table) :
    TableMoves s (cascade u) := (TableMove.retires around records).moves

/-- An event that leaves the table and its surroundings alone. -/
theorem tableMoves_of_eq {s t : State} (ht : t.table = s.table) (hn : t.numbering = s.numbering)
    (hp : t.trigger.state = .holding → s.trigger.state = .holding) : TableMoves s t :=
  (TableMove.keeps (sameAround_of_eq hn hp) (ht ▸ keepsWaiting_same _)).moves

/-- The trigger port alone changes, and no frame comes to wait in it. -/
theorem tableMoves_withTrigger (s : State) {p : TriggerPort} (hp : p.state ≠ .holding) : TableMoves s (s.withTrigger p) :=
  tableMoves_of_eq rfl rfl fun h => absurd h hp

theorem tableMoves_reevaluateBusy (s : State) : TableMoves s (reevaluateBusy s) :=
  tableMoves_of_eq (by simp) (by simp) (by simp)

/-- The readers' contexts have no part in the table. -/
theorem tableMoves_modifyReader (s : State) (r : Reader) (f : ReaderContext → ReaderContext) :
    TableMoves s (s.modifyReader r f) := tableMoves_of_eq rfl rfl id

/-- A frame that is decided does not wait. -/
theorem tableMoves_decideFrame (answer : Response) (s : State) : TableMoves s (decideFrame answer s) :=
  tableMoves_withTrigger s (by simp)

theorem tableMoves_badFrame (s : State) : TableMoves s (badFrame s) := tableMoves_of_eq rfl rfl (by simp [badFrame, decideFrame])

theorem tableMoves_refuseFull (s : State) : TableMoves s (refuseFull s) :=
  tableMoves_of_eq rfl rfl (by simp [refuseFull, decideFrame])

theorem tableMoves_refuseEpoch (s : State) : TableMoves s (refuseEpoch s) :=
  tableMoves_of_eq rfl rfl (by simp [refuseEpoch, decideFrame])

theorem tableMoves_retryHeldFrame (s : State) : TableMoves s (retryHeldFrame s) := by
  unfold retryHeldFrame
  split
  next h => exact (TableMove.enters h.2).moves
  next => exact .refl s

/-- A reset that is applied where it is due: at an empty table (R122). -/
theorem tableMoves_applyEpochReset {s : State} (h : s.table = []) : TableMoves s (reevaluateBusy (applyEpochReset s)) :=
  (TableMove.resets h).moves.trans (tableMoves_reevaluateBusy _)

/-! ### Expiries -/

theorem tableMoves_expireForce (r : Reader) (s : State) : TableMoves s (expireForce r s) := by
  unfold expireForce
  split
  next => exact tableMoves_modifyReader s r _
  next =>
    refine TableMoves.trans ?_ (tableMoves_modifyReader _ r _)
    exact tableMoves_cascade (sameAround_of_eq rfl id) (letsGo_forceReleaseIn r _ s.table)

theorem tableMoves_expireLapse (r : Reader) (s : State) : TableMoves s (expireLapse r s) := by
  unfold expireLapse
  refine TableMoves.trans ?_ (tableMoves_reevaluateBusy _)
  exact tableMoves_cascade (sameAround_of_eq rfl id)
    (letsGo_trans (letsGo_forceReleaseAll r _ s.table) (letsGo_massReleaseIn r _))

theorem tableMoves_takeHoldExpiry (r : Reader) (s : State) : TableMoves s (takeHoldExpiry r s) := by
  unfold takeHoldExpiry
  split
  · split
    · exact tableMoves_expireForce r s
    · exact tableMoves_expireLapse r s
  · exact .refl s

theorem tableMoves_takeStretchExpiry (s : State) : TableMoves s (takeStretchExpiry s) := by
  unfold takeStretchExpiry
  split
  · exact tableMoves_refuseFull s
  · exact .refl s

theorem tableMoves_takeMinimumHoldExpiry (s : State) : TableMoves s (takeMinimumHoldExpiry s) :=
  tableMoves_of_eq (by simp) (by simp) (by simp)

/-! ### The timebase -/

theorem tableMoves_takeDueEvents (s : State) : TableMoves s (takeDueEvents s) :=
  (tableMoves_takeHoldExpiry .a s).trans <| (tableMoves_takeHoldExpiry .b _).trans <|
    (tableMoves_takeHoldExpiry .c _).trans <| (tableMoves_takeHoldExpiry .d _).trans <|
    (tableMoves_takeStretchExpiry _).trans (tableMoves_takeMinimumHoldExpiry _)

@[simp] theorem stretchPulse_state (p : TriggerPort) : (stretchPulse p).state = p.state := by
  unfold stretchPulse; split <;> rfl

@[simp] theorem coarsePulse_triggerState (s : State) : (coarsePulse s).trigger.state = s.trigger.state := by
  unfold coarsePulse; split <;> simp

theorem tableMoves_countTick (s : State) : TableMoves s (countTick s) :=
  tableMoves_of_eq (by simp) (by simp) (by simp [countTick])

theorem tableMoves_takeTick (s : State) : TableMoves s (takeTick s) :=
  (tableMoves_takeDueEvents s).trans (tableMoves_countTick _)

theorem tableMoves_takeDueTick (s : State) : TableMoves s (takeDueTick s) := by
  unfold takeDueTick
  split
  · exact tableMoves_takeTick s
  · exact .refl s

theorem tableMoves_countRefclkEdge (s : State) : TableMoves s (countRefclkEdge s) := by
  unfold countRefclkEdge
  split
  · exact (tableMoves_takeDueTick s).trans (tableMoves_of_eq (by simp) (by simp) (by simp))
  · exact tableMoves_of_eq rfl rfl id

theorem tableMoves_takeSettleComplete (s : State) : TableMoves s (takeSettleComplete s) := by
  unfold takeSettleComplete
  dsimp only
  split
  · exact (tableMoves_takeDueTick s).trans (tableMoves_of_eq (by simp) (by simp) (by simp))
  · exact .refl s

theorem tableMoves_loseRefclk (s : State) : TableMoves s (loseRefclk s) := by
  unfold loseRefclk
  split
  · exact (tableMoves_takeDueTick s).trans
      (tableMoves_of_eq (by simp [fallback]) (by simp [fallback]) (by simp [fallback]))
  · exact tableMoves_of_eq rfl rfl id

theorem tableMoves_switchReference (x : ReferenceSelection) (s : State) : TableMoves s (switchReference x s) := by
  have hstart : TableMoves (takeDueTick s) (startSettle x (takeDueTick s)) := tableMoves_of_eq rfl rfl id
  exact (tableMoves_takeDueTick s).trans (hstart.trans (tableMoves_reevaluateBusy _))

theorem tableMoves_restartDivider (s : State) : TableMoves s (restartDivider s) :=
  (tableMoves_takeDueTick s).trans (tableMoves_of_eq rfl rfl id)

/-! ### Settings -/

/-- RUN_NUMBER is the one setting that the numbering unit holds, and the table does not read it (R129). -/
theorem sameAround_storeSetting (x : Setting) (v : Value16) (s : State) : SameAround s (storeSetting x v s) := by
  cases x with
  | ofReader r y => exact sameAround_of_eq rfl id
  | shared y => cases y <;> exact ⟨rfl, rfl, rfl, id⟩

theorem tableMoves_writeSetting (x : Setting) (v : Value16) (s : State) : TableMoves s (writeSetting x v s) := by
  have hstore : ∀ t, TableMoves t (applySetting x (storeSetting x v t)) := fun t =>
    (TableMove.keeps (sameAround_storeSetting x v t) (by simpa using keepsWaiting_same t.table)).moves.trans
      (tableMoves_of_eq (by simp) (by simp) (by simp))
  unfold writeSetting
  dsimp only
  split
  · exact (tableMoves_restartDivider s).trans (hstore _)
  · exact hstore s

end Sys2Proof.Machine
end

section
/-! SUPPORT. Every step is moves of the event table: command by command, in the families of the model. -/

namespace Sys2Proof.Machine

/-! ### The reset line and the ports -/

theorem tableMoves_whileRunning {f : State → State} (h : ∀ s, TableMoves s (f s)) (s : State) :
    TableMoves s (whileRunning f s) := by
  unfold whileRunning
  split
  · exact .refl s
  · exact h s

/-- A reader command moves the table as its answer does. -/
theorem tableMoves_command {act : State → Answer} (h : ∀ s, TableMoves s (act s).after) (r : Reader) (code : Byte)
    (args : List Byte) (length : Nat) (s : State) : TableMoves s (command r code args length act s) := by
  unfold command
  split
  · exact (h s).trans (tableMoves_of_eq rfl rfl id)
  · exact .refl s

/-! ### The trigger bus -/

@[simp] theorem countTruncation_trigger (s : State) : (countTruncation s).trigger = s.trigger := by
  unfold countTruncation; split <;> rfl

theorem tableMoves_countTruncation (s : State) : TableMoves s (countTruncation s) := by
  unfold countTruncation
  split
  · exact tableMoves_of_eq rfl rfl id
  · exact .refl s

theorem tableMoves_takeStartMark (s : State) : TableMoves s (takeStartMark s) := by
  unfold takeStartMark
  split
  · exact .refl s
  · exact (tableMoves_countTruncation s).trans (tableMoves_withTrigger _ (by simp))

theorem tableMoves_takeStopMark (s : State) : TableMoves s (takeStopMark s) := by
  unfold takeStopMark
  split
  · exact .refl s
  · exact (tableMoves_countTruncation s).trans (tableMoves_withTrigger _ (by simp))

theorem tableMoves_acknowledgeByte {next : FrameState} (h : next ≠ .holding) (f : Frame) (s : State) :
    TableMoves s (acknowledgeByte next f s) := tableMoves_withTrigger s h

theorem tableMoves_judgeAddress (byte : Byte) (s : State) : TableMoves s (judgeAddress byte s) := by
  unfold judgeAddress
  split
  · split
    · exact tableMoves_withTrigger s (by simp)
    · exact tableMoves_acknowledgeByte (by simp) _ s
  · split
    · exact tableMoves_acknowledgeByte (by simp) _ s
    · exact tableMoves_decideFrame _ s

theorem tableMoves_judgeHeader (byte : Byte) (s : State) : TableMoves s (judgeHeader byte s) := by
  unfold judgeHeader
  dsimp only
  split
  · exact tableMoves_badFrame s
  · exact tableMoves_acknowledgeByte (by simp) _ s
  · exact tableMoves_acknowledgeByte (by simp) _ s

theorem tableMoves_judgeClass (byte : Byte) (s : State) : TableMoves s (judgeClass byte s) := by
  unfold judgeClass
  dsimp only
  split
  · exact tableMoves_acknowledgeByte (by split <;> simp) _ s
  · exact tableMoves_badFrame s

theorem tableMoves_takeTagByte (byte : Byte) (s : State) : TableMoves s (takeTagByte byte s) :=
  tableMoves_acknowledgeByte (by split <;> simp) _ s

theorem tableMoves_judgeTriggerCheck (byte : Byte) (s : State) : TableMoves s (judgeTriggerCheck byte s) := by
  unfold judgeTriggerCheck
  split
  · exact tableMoves_badFrame s
  split
  · exact tableMoves_refuseEpoch s
  next free =>
  split
  next room => exact (TableMove.enters room).moves
  next full =>
  split
  · exact tableMoves_refuseFull s
  · exact (TableMove.holds (Nat.le_of_not_lt full) (by simpa using free)).moves

theorem tableMoves_requestEpochReset {s : State} (free : s.trigger.state ≠ .holding) :
    TableMoves s (requestEpochReset s) := by
  unfold requestEpochReset
  split
  · exact .refl s
  split
  next empty => exact tableMoves_applyEpochReset (List.isEmpty_iff.mp empty)
  next live =>
    exact (TableMove.awaits (by simpa using live) free).moves.trans (tableMoves_reevaluateBusy _)

theorem tableMoves_judgeEpochCheck (byte : Byte) {s : State} (free : s.trigger.state ≠ .holding) :
    TableMoves s (judgeEpochCheck byte s) := by
  unfold judgeEpochCheck
  split
  · exact tableMoves_badFrame s
  split
  · exact tableMoves_decideFrame _ s
  · exact (tableMoves_requestEpochReset free).trans (tableMoves_decideFrame _ _)

theorem tableMoves_receiveByte (byte : Byte) (s : State) : TableMoves s (receiveByte byte s) := by
  unfold receiveByte
  split
  next h => exact tableMoves_withTrigger s (by simp [h])
  next h => exact tableMoves_withTrigger s (by simp [h])
  · exact tableMoves_judgeAddress byte s
  · exact tableMoves_judgeHeader byte s
  · exact tableMoves_judgeClass byte s
  · exact tableMoves_takeTagByte byte s
  next h =>
    split
    · exact tableMoves_judgeTriggerCheck byte s
    · exact tableMoves_judgeEpochCheck byte (by simp [h])
  · exact .refl s
  · exact .refl s

theorem tableMoves_sendStatusByte (acknowledged : Bool) (s : State) : TableMoves s (sendStatusByte acknowledged s) := by
  unfold sendStatusByte
  split
  next h =>
    split
    · exact tableMoves_withTrigger s (by simp [h])
    · exact tableMoves_decideFrame _ s
  · exact .refl s

/-- EPOCH_RESET: a pending reset at an empty table (R122). -/
theorem tableMoves_takeEpochReset (s : State) :
    TableMoves s (if s.numbering.epochPending && s.table.isEmpty then reevaluateBusy (applyEpochReset s) else s) := by
  split
  next h =>
    obtain ⟨-, empty⟩ := Bool.and_eq_true_iff.mp h
    exact tableMoves_applyEpochReset (List.isEmpty_iff.mp empty)
  next => exact .refl s

/-! ### The readers' commands -/

theorem tableMoves_answerCauses (r : Reader) (s : State) : TableMoves s (answerCauses r s).after :=
  tableMoves_of_eq rfl rfl id

theorem tableMoves_answerTake (r : Reader) (s : State) : TableMoves s (answerTake r s).after := by
  unfold answerTake
  dsimp only
  split
  · exact .refl s
  split
  · exact .refl s
  split
  · exact .refl s
  · exact tableMoves_keeps (sameAround_of_eq rfl id)
      (forall₂_modifyFirst .refl (fun _ => keepsWaiting_takeRecord) s.table)

theorem tableMoves_releaseEntry (r : Reader) (x : Identity) (s : State) : TableMoves s (releaseEntry r x s) :=
  tableMoves_cascade (sameAround_of_eq rfl id) (letsGo_releaseIn r x s.table)

theorem tableMoves_answerRelease (r : Reader) (x : Identity) (s : State) : TableMoves s (answerRelease r x s).after := by
  unfold answerRelease
  dsimp only
  split
  · exact .refl s
  split
  · exact tableMoves_releaseEntry r x s
  · exact .refl s

theorem tableMoves_answerReleaseOldest (r : Reader) (s : State) : TableMoves s (answerReleaseOldest r s).after := by
  unfold answerReleaseOldest
  dsimp only
  split
  · exact .refl s
  split
  · exact .refl s
  · exact tableMoves_releaseEntry r _ s

theorem tableMoves_modifyReader_reevaluateBusy (s : State) (r : Reader) (f : ReaderContext → ReaderContext) :
    TableMoves s (reevaluateBusy (s.modifyReader r f)) :=
  (tableMoves_modifyReader s r f).trans (tableMoves_reevaluateBusy _)

theorem tableMoves_answerAttach (r : Reader) (s : State) : TableMoves s (answerAttach r s).after := by
  unfold answerAttach
  split
  · exact tableMoves_modifyReader_reevaluateBusy s r _
  · exact .refl s

theorem tableMoves_massRelease (r : Reader) (x : ReaderState) (s : State) : TableMoves s (cascade (massRelease r x s)) :=
  tableMoves_cascade (sameAround_of_eq rfl id) (letsGo_massReleaseIn r s.table)

theorem tableMoves_answerDetach (r : Reader) (s : State) : TableMoves s (answerDetach r s).after := by
  unfold answerDetach
  split
  · exact .refl s
  · exact (tableMoves_massRelease r _ s).trans (tableMoves_reevaluateBusy _)

theorem tableMoves_answerResume (r : Reader) (s : State) : TableMoves s (answerResume r s).after := by
  unfold answerResume
  split
  · exact tableMoves_modifyReader_reevaluateBusy s r _
  · exact .refl s

theorem tableMoves_answerDeclareBusy (r : Reader) (value : Byte) (s : State) :
    TableMoves s (answerDeclareBusy r value s).after := by
  unfold answerDeclareBusy
  dsimp only
  split
  · split
    · exact .refl s
    · exact tableMoves_modifyReader_reevaluateBusy s r _
  · exact .refl s

theorem tableMoves_freeTokenOf (r : Reader) (s : State) : TableMoves s (freeTokenOf r s) := by
  unfold freeTokenOf
  split
  · exact tableMoves_of_eq rfl rfl id
  · exact .refl s

theorem tableMoves_answerReaderReset (r : Reader) (s : State) : TableMoves s (answerReaderReset r s).after :=
  (tableMoves_massRelease r .detached s).trans <| (tableMoves_modifyReader _ r _).trans <|
    (tableMoves_freeTokenOf r _).trans (tableMoves_reevaluateBusy _)

/-! ### The commands that act on the hub -/

theorem tableMoves_answerClaim (r : Reader) (s : State) : TableMoves s (answerClaim r s).after := by
  unfold answerClaim
  split
  · exact tableMoves_of_eq rfl rfl id
  split
  · exact .refl s
  split
  · exact .refl s
  · exact tableMoves_of_eq rfl rfl id

theorem tableMoves_answerYield (r : Reader) (s : State) : TableMoves s (answerYield r s).after := by
  unfold answerYield
  split
  · exact tableMoves_of_eq rfl rfl id
  · exact .refl s

theorem tableMoves_answerSet (r : Reader) (id : Byte) (v : Value16) (s : State) : TableMoves s (answerSet r id v s).after := by
  unfold answerSet
  split
  · exact .refl s
  split
  · exact .refl s
  split
  · exact tableMoves_writeSetting _ v s
  · exact .refl s

theorem tableMoves_setCommand (r : Reader) (id : Byte) (v : Value16) (s : State) : TableMoves s (setCommand r id v s) :=
  tableMoves_command (tableMoves_answerSet r id v) r _ _ _ s

theorem tableMoves_answerGet (id : Byte) (s : State) : TableMoves s (answerGet id s).after := by
  unfold answerGet; split <;> exact .refl s

theorem tableMoves_answerRuleWrite (r : Reader) (index enable pattern mask sets interval : Byte) (s : State) :
    TableMoves s (answerRuleWrite r index enable pattern mask sets interval s).after := by
  unfold answerRuleWrite
  split
  · exact .refl s
  split
  · exact .refl s
  split
  · exact tableMoves_of_eq rfl rfl id
  · exact .refl s

theorem tableMoves_answerRuleRead (index : Byte) (s : State) : TableMoves s (answerRuleRead index s).after := by
  unfold answerRuleRead; split <;> exact .refl s

theorem tableMoves_answerEpoch (r : Reader) (s : State) : TableMoves s (answerEpoch r s).after := by
  unfold answerEpoch
  split
  · exact .refl s
  split
  · exact .refl s
  split
  next empty => exact tableMoves_applyEpochReset (List.isEmpty_iff.mp empty)
  next => exact .refl s

theorem tableMoves_answerClear (r : Reader) (s : State) : TableMoves s (answerClear r s).after := by
  unfold answerClear
  split
  · exact TableMove.clears.moves
  · exact .refl s

theorem tableMoves_answerReference (r : Reader) (value : Byte) (s : State) :
    TableMoves s (answerReference r value s).after := by
  unfold answerReference
  split
  · exact .refl s
  split
  · exact .refl s
  split
  · exact .refl s
  split
  · exact .refl s
  · exact tableMoves_switchReference _ s

theorem tableMoves_answerCounter (r : Reader) (index form : Byte) (s : State) :
    TableMoves s (answerCounter r index form s).after := by
  unfold answerCounter; (repeat' split) <;> exact .refl s

theorem tableMoves_answerClearCounters (r : Reader) (s : State) : TableMoves s (answerClearCounters r s).after := by
  unfold answerClearCounters
  split
  · exact tableMoves_of_eq rfl rfl id
  · exact .refl s

/-! ### Resets and transactions -/

/-- The rise of RST_N drives BUSY alone (R141). -/
theorem tableMoves_resetRelease (s : State) :
    TableMoves s (if s.rstLow then
      reevaluateBusy ((s.withRstLow false).withBusy
        { s.busy with output := true, minimumHold := .running Config.resetMinimumHold })
    else s) := by
  split
  · exact tableMoves_of_eq (by simp) (by simp) (by simp)
  · exact .refl s

/-- The edges of CS_N reach the port alone (R144). -/
theorem tableMoves_withPorts (s : State) (x : PerReader ReaderPort) : TableMoves s (s.withPorts x) :=
  tableMoves_of_eq rfl rfl id

/-! ### Every step -/

theorem exec_tableMoves (c : Instr) (s : State) : ∃ t, exec c s = .next t ∧ TableMoves s t := by
  cases c with
  | deviceReset => exact ⟨_, rfl, TableMove.restarts.moves⟩
  | resetRelease => exact ⟨_, rfl, tableMoves_resetRelease s⟩
  | tick => exact ⟨_, rfl, tableMoves_whileRunning tableMoves_takeTick s⟩
  | holdExpiry r => exact ⟨_, rfl, tableMoves_whileRunning (tableMoves_takeHoldExpiry r) s⟩
  | minimumHoldExpiry => exact ⟨_, rfl, tableMoves_whileRunning tableMoves_takeMinimumHoldExpiry s⟩
  | stretchExpiry => exact ⟨_, rfl, tableMoves_whileRunning tableMoves_takeStretchExpiry s⟩
  | refclkEdge => exact ⟨_, rfl, tableMoves_whileRunning tableMoves_countRefclkEdge s⟩
  | refclkAbsent => exact ⟨_, rfl, tableMoves_whileRunning tableMoves_loseRefclk s⟩
  | settleComplete => exact ⟨_, rfl, tableMoves_whileRunning tableMoves_takeSettleComplete s⟩
  | startMark => exact ⟨_, rfl, tableMoves_whileRunning tableMoves_takeStartMark s⟩
  | stopMark => exact ⟨_, rfl, tableMoves_whileRunning tableMoves_takeStopMark s⟩
  | addressByte byte => exact ⟨_, rfl, tableMoves_whileRunning (tableMoves_receiveByte byte) s⟩
  | headerByte byte => exact ⟨_, rfl, tableMoves_whileRunning (tableMoves_receiveByte byte) s⟩
  | classByte byte => exact ⟨_, rfl, tableMoves_whileRunning (tableMoves_receiveByte byte) s⟩
  | tagByte byte => exact ⟨_, rfl, tableMoves_whileRunning (tableMoves_receiveByte byte) s⟩
  | triggerCheckByte byte => exact ⟨_, rfl, tableMoves_whileRunning (tableMoves_receiveByte byte) s⟩
  | holdingEntry => exact ⟨_, rfl, tableMoves_whileRunning tableMoves_retryHeldFrame s⟩
  | epochCheckByte byte => exact ⟨_, rfl, tableMoves_whileRunning (tableMoves_receiveByte byte) s⟩
  | epochReset => exact ⟨_, rfl, tableMoves_whileRunning tableMoves_takeEpochReset s⟩
  | statusReadByte acknowledged => exact ⟨_, rfl, tableMoves_whileRunning (tableMoves_sendStatusByte acknowledged) s⟩
  | transactionOpen r =>
    refine ⟨_, rfl, ?_⟩
    split
    · exact .refl s
    · exact tableMoves_withPorts s _
  | transactionEnd r =>
    refine ⟨_, rfl, ?_⟩
    split
    · exact tableMoves_withPorts s _
    · exact .refl s
  | badCommand r code =>
    refine ⟨_, rfl, ?_⟩
    split
    · exact .refl s
    · exact tableMoves_command .refl r _ _ _ s
  | status r => exact ⟨_, rfl, tableMoves_command .refl r _ _ _ s⟩
  | time r => exact ⟨_, rfl, tableMoves_command .refl r _ _ _ s⟩
  | causes r => exact ⟨_, rfl, tableMoves_command (tableMoves_answerCauses r) r _ _ _ s⟩
  | take r => exact ⟨_, rfl, tableMoves_command (tableMoves_answerTake r) r _ _ _ s⟩
  | release r epoch number => exact ⟨_, rfl, tableMoves_command (tableMoves_answerRelease r _) r _ _ _ s⟩
  | releaseOldest r => exact ⟨_, rfl, tableMoves_command (tableMoves_answerReleaseOldest r) r _ _ _ s⟩
  | held r => exact ⟨_, rfl, tableMoves_command .refl r _ _ _ s⟩
  | attach r => exact ⟨_, rfl, tableMoves_command (tableMoves_answerAttach r) r _ _ _ s⟩
  | detach r => exact ⟨_, rfl, tableMoves_command (tableMoves_answerDetach r) r _ _ _ s⟩
  | resume r => exact ⟨_, rfl, tableMoves_command (tableMoves_answerResume r) r _ _ _ s⟩
  | declareBusy r value => exact ⟨_, rfl, tableMoves_command (tableMoves_answerDeclareBusy r value) r _ _ _ s⟩
  | readerReset r => exact ⟨_, rfl, tableMoves_command (tableMoves_answerReaderReset r) r _ _ _ s⟩
  | claim r => exact ⟨_, rfl, tableMoves_command (tableMoves_answerClaim r) r _ _ _ s⟩
  | yield r => exact ⟨_, rfl, tableMoves_command (tableMoves_answerYield r) r _ _ _ s⟩
  | set r id value => exact ⟨_, rfl, tableMoves_setCommand r _ value s⟩
  | setBusyHigh r value => exact ⟨_, rfl, tableMoves_setCommand r _ value s⟩
  | setBusyLow r value => exact ⟨_, rfl, tableMoves_setCommand r _ value s⟩
  | setForceBusy r value => exact ⟨_, rfl, tableMoves_setCommand r _ value s⟩
  | setSettleBusy r value => exact ⟨_, rfl, tableMoves_setCommand r _ value s⟩
  | setTickPrescale r value => exact ⟨_, rfl, tableMoves_setCommand r _ value s⟩
  | setRunNumber r value => exact ⟨_, rfl, tableMoves_setCommand r _ value s⟩
  | setAttnMask r target value => exact ⟨_, rfl, tableMoves_setCommand r _ value s⟩
  | get r id => exact ⟨_, rfl, tableMoves_command (tableMoves_answerGet id) r _ _ _ s⟩
  | ruleWrite r index enable pattern mask sets interval =>
    exact ⟨_, rfl, tableMoves_command (tableMoves_answerRuleWrite r index enable pattern mask sets interval) r _ _ _ s⟩
  | ruleRead r index => exact ⟨_, rfl, tableMoves_command (tableMoves_answerRuleRead index) r _ _ _ s⟩
  | epoch r => exact ⟨_, rfl, tableMoves_command (tableMoves_answerEpoch r) r _ _ _ s⟩
  | clear r => exact ⟨_, rfl, tableMoves_command (tableMoves_answerClear r) r _ _ _ s⟩
  | reference r value => exact ⟨_, rfl, tableMoves_command (tableMoves_answerReference r value) r _ _ _ s⟩
  | counter r index form => exact ⟨_, rfl, tableMoves_command (tableMoves_answerCounter r index form) r _ _ _ s⟩
  | clearCounters r => exact ⟨_, rfl, tableMoves_command (tableMoves_answerClearCounters r) r _ _ _ s⟩

/-- Whatever a step does, it is moves of the table. -/
theorem step_tableMoves {s t : State} (h : step s = .next t) : TableMoves s t := by
  unfold step at h
  split at h
  next =>
    obtain rfl : byteTime s = t := by injection h
    exact tableMoves_withPorts s _
  next c rest _ =>
    obtain ⟨u, hu, hmoves⟩ := exec_tableMoves c (s.withPending rest)
    obtain rfl : u = t := by rw [hu] at h; injection h
    have hqueue : TableMoves s (s.withPending rest) := tableMoves_of_eq rfl rfl id
    exact hqueue.trans hmoves

end Sys2Proof.Machine
end

section
/-! SUPPORT. The invariants of the event table, kept by every move and so by every step. -/

namespace Sys2Proof.Machine

/-! ### The cascade and the entry, as the table sees them -/

/-- The complete records at the head retire, and the event is completed (R21, R22). -/
theorem cascade_retires {s : State} {gone rest : List EventRecord} (ht : s.table = gone ++ rest) (hne : gone ≠ [])
    (hgone : ∀ x ∈ gone, complete x = true) (hrest : headWaits (s.withTable rest)) :
    cascade s = finishCascade (s.withTable rest) := by
  have hwaits : rest.dropWhile complete = rest := by
    cases rest with
    | nil => rfl
    | cons y l => simp [hrest y rfl]
  cases gone with
  | nil => exact absurd rfl hne
  | cons x l =>
    have hl : ∀ y ∈ l, complete y = true := fun y hy => hgone y (List.mem_cons_of_mem x hy)
    rw [cascade_of_head_complete (l := l ++ rest) ht (hgone x List.mem_cons_self), List.dropWhile_append_of_pos hl, hwaits]

/-- A cascade finds a head that waits, or retires what is complete before the first record that waits. -/
theorem cascade_cases (s : State) :
    (cascade s = s ∧ headWaits s) ∨
      ∃ gone rest, s.table = gone ++ rest ∧ gone ≠ [] ∧ headWaits (s.withTable rest) ∧
        cascade s = finishCascade (s.withTable rest) := by
  have hsplit : s.table = s.table.takeWhile complete ++ s.table.dropWhile complete :=
    List.takeWhile_append_dropWhile.symm
  have hrest : headWaits (s.withTable (s.table.dropWhile complete)) := dropWhile_head_waits s.table
  by_cases hgone : s.table.takeWhile complete = []
  · have hs : headWaits s := by
      have : s.table = s.table.dropWhile complete := by simpa [hgone] using hsplit
      intro x hx; exact hrest x (this ▸ hx)
    exact .inl ⟨cascade_of_head_waits hs, hs⟩
  · have hcomplete : ∀ x ∈ s.table.takeWhile complete, complete x = true := fun x hx => List.mem_takeWhile_imp hx
    exact .inr ⟨_, _, hsplit, hgone, hrest, cascade_retires hsplit hgone hcomplete hrest⟩

/-- The entering record joins the table, unless it would be a head that waits for nobody (R13). -/
theorem tableAfterEntry_cases (s : State) :
    (s.table = [] ∧ tableAfterEntry s = []) ∨
      (tableAfterEntry s = s.table ++ [newRecord s] ∧ (s.table = [] → requiredOfFrame s ≠ ReaderSet.none)) := by
  unfold tableAfterEntry
  split
  next h => exact .inl ⟨by simpa using (Bool.and_eq_true_iff.mp h).1, rfl⟩
  next h => exact .inr ⟨rfl, fun ht hr => h (by simp [ht, hr])⟩

@[simp] theorem acceptFrame_table (s : State) : (acceptFrame s).table = tableAfterEntry s := by simp [acceptFrame]
@[simp] theorem acceptFrame_numbering (s : State) : (acceptFrame s).numbering = numberingAfterEntry s := by
  simp [acceptFrame]
@[simp] theorem acceptFrame_triggerState (s : State) : (acceptFrame s).trigger.state = .passive := rfl

@[simp] theorem applyEpochReset_epochPending (s : State) : (applyEpochReset s).numbering.epochPending = false := rfl

theorem newRecord_legal (s : State) : (newRecord s).Legal := by
  intro r; simp [newRecord]

theorem newRecord_waits {s : State} (h : requiredOfFrame s ≠ ReaderSet.none) : complete (newRecord s) = false := by
  simpa [complete, newRecord] using h.symm

/-! ### The table stays legal (R1, R14, R21, R94, R123) -/

/-- The table as a cascade and a clear leave it before the waiting frame asks again for entry: legal, but for a slot that may have
become free behind a waiting frame. -/
structure TableReady (s : State) : Prop where
  fits    : fill s ≤ 64
  records : ∀ x ∈ s.table, x.Legal
  head    : headWaits s
  pending : s.numbering.epochPending = true → s.table ≠ []
  free    : s.trigger.state = .holding → s.numbering.epochPending = false

theorem TableReady.of_tableLegal {s : State} (h : tableLegal s) : TableReady s := by
  obtain ⟨hfits, hrecords, hhead, hpending, hholding⟩ := h
  exact ⟨hfits, hrecords, hhead, hpending, fun hs => (hholding hs).2⟩

theorem TableReady.of_emptied {s : State} (ht : s.table = []) (hp : s.numbering.epochPending = false) : TableReady s :=
  ⟨by simp [fill, ht], by simp [ht], by simp [headWaits, ht], by simp [hp], fun _ => hp⟩

theorem tableLegal_emptied {s : State} (ht : s.table = []) (hp : s.numbering.epochPending = false)
    (hs : s.trigger.state ≠ .holding) : tableLegal s := by
  have h := TableReady.of_emptied ht hp
  exact ⟨h.fits, h.records, h.head, h.pending, fun hh => absurd hh hs⟩

theorem tableLegal_acceptFrame {s : State} (h : TableReady s) (room : fill s < 64) : tableLegal (acceptFrame s) := by
  rcases tableAfterEntry_cases s with ⟨hempty, ht⟩ | ⟨ht, hrequired⟩
  · have hnone : s.numbering.epochPending ≠ true := fun hp => h.pending hp hempty
    exact tableLegal_emptied (by simpa using ht) (by simpa [numberingAfterEntry] using hnone) (by simp)
  · refine ⟨?_, ?_, ?_, by simp [ht], by simp⟩
    · simpa [fill, ht] using room
    · intro x hx
      obtain hx | rfl : x ∈ s.table ∨ x = newRecord s := by simpa [ht] using hx
      · exact h.records x hx
      · exact newRecord_legal s
    · intro x hx
      cases hs : s.table with
      | nil =>
        obtain rfl : newRecord s = x := by simpa [ht, hs] using hx
        exact newRecord_waits (hrequired hs)
      | cons y l => exact h.head x (by simpa [ht, hs] using hx)

theorem tableLegal_retryHeldFrame {s : State} (h : TableReady s) : tableLegal (retryHeldFrame s) := by
  unfold retryHeldFrame
  split
  next hroom => exact tableLegal_acceptFrame h hroom.2
  next hroom =>
    refine ⟨h.fits, h.records, h.head, h.pending, fun hs => ⟨?_, h.free hs⟩⟩
    have hfull : ¬ fill s < 64 := fun hlt => hroom ⟨hs, hlt⟩
    have := h.fits
    omega

/-- Only the table and what stands around it matter. -/
theorem tableLegal_of_eq {s t : State} (ht : t.table = s.table) (hn : t.numbering = s.numbering)
    (hp : t.trigger.state = s.trigger.state) (h : tableLegal s) : tableLegal t := by
  simpa [tableLegal, headWaits, fill, ht, hn, hp] using h

theorem tableLegal_reevaluateBusy {s : State} (h : tableLegal s) : tableLegal (reevaluateBusy s) :=
  tableLegal_of_eq (by simp) (by simp) (by simp) h

theorem tableLegal_finishCascade {s : State} (h : fill s ≤ 64) (hrecords : ∀ x ∈ s.table, x.Legal) (hhead : headWaits s)
    (hfree : s.trigger.state = .holding → s.numbering.epochPending = false) : tableLegal (finishCascade s) := by
  refine tableLegal_reevaluateBusy (tableLegal_retryHeldFrame ?_)
  split
  next => exact ⟨h, hrecords, hhead, by simp, fun _ => rfl⟩
  next hnot => exact ⟨h, hrecords, hhead, fun hp he => hnot (by simp [hp, he]), hfree⟩

/-- A cascade makes legal again a table whose head has become complete. -/
theorem tableLegal_cascade {s : State} (hfits : fill s ≤ 64) (hrecords : ∀ x ∈ s.table, x.Legal)
    (hpending : s.numbering.epochPending = true → s.table ≠ [])
    (hholding : s.trigger.state = .holding → fill s = 64 ∧ s.numbering.epochPending = false) : tableLegal (cascade s) := by
  rcases cascade_cases s with ⟨he, hhead⟩ | ⟨gone, rest, ht, -, hhead, he⟩
  · rw [he]; exact ⟨hfits, hrecords, hhead, hpending, hholding⟩
  · rw [he]
    refine tableLegal_finishCascade ?_ (fun x hx => hrecords x (by simp [ht, show x ∈ rest from hx])) hhead
      (fun hs => (hholding hs).2)
    simp only [fill, ht, List.length_append] at hfits
    simp only [fill, State.withTable_table]
    omega

theorem tableLegal_hubClear (s : State) : tableLegal (hubClear s) := by
  refine tableLegal_retryHeldFrame (TableReady.of_emptied ?_ ?_)
  · simp only [reevaluateBusy_table, raiseFor_table]
    split <;> rfl
  · simp only [reevaluateBusy_numbering, raiseFor_numbering]
    split
    next => rfl
    next h => simpa using h

theorem legal_of_letsGo {l m : List EventRecord} (h : List.Forall₂ LetsGo l m) (hl : ∀ x ∈ l, x.Legal) :
    ∀ y ∈ m, y.Legal := by
  induction h with
  | nil => simp
  | cons hxy _ ih =>
    simp only [List.forall_mem_cons] at hl ⊢
    exact ⟨hxy.2 hl.1, ih hl.2⟩

theorem ne_nil_of_forall₂ {R : EventRecord → EventRecord → Prop} {l m : List EventRecord} (h : List.Forall₂ R l m)
    (hl : l ≠ []) : m ≠ [] := by
  rintro rfl; exact hl (List.forall₂_nil_right_iff.mp h)

theorem head_waits_of_keepsWaiting {l m : List EventRecord} (h : List.Forall₂ KeepsWaiting l m)
    (hl : ∀ x, l.head? = some x → complete x = false) : ∀ y, m.head? = some y → complete y = false := by
  cases h with
  | nil => simp
  | cons hxy _ => simpa [hxy.2] using hl

theorem TableMove.keeps_tableLegal {s t : State} (hmove : TableMove s t) (h : tableLegal s) : tableLegal t := by
  have hready := TableReady.of_tableLegal h
  obtain ⟨hfits, hrecords, hhead, hpending, hholding⟩ := h
  cases hmove with
  | keeps around records =>
    have hlets : List.Forall₂ LetsGo s.table t.table := records.imp fun _ _ hxy => hxy.1
    have hfill : fill t = fill s := records.length_eq.symm
    exact ⟨hfill ▸ hfits, legal_of_letsGo hlets hrecords, head_waits_of_keepsWaiting records hhead,
      fun hp => ne_nil_of_forall₂ records (hpending (around.pending ▸ hp)),
      fun hs => by rw [hfill, around.pending]; exact hholding (around.holding hs)⟩
  | @retires u around records =>
    have hfill : fill u = fill s := records.length_eq.symm
    exact tableLegal_cascade (hfill ▸ hfits) (legal_of_letsGo records hrecords)
      (fun hp => ne_nil_of_forall₂ records (hpending (around.pending ▸ hp)))
      (fun hs => by rw [hfill, around.pending]; exact hholding (around.holding hs))
  | enters room => exact tableLegal_acceptFrame hready room
  | holds full free => exact ⟨hfits, hrecords, hhead, hpending, fun _ => ⟨Nat.le_antisymm hfits full, free⟩⟩
  | awaits live free => exact ⟨hfits, hrecords, hhead, fun _ => live, fun hs => absurd hs free⟩
  | resets empty => exact ⟨hfits, hrecords, hhead, by simp, fun hs => ⟨(hholding hs).1, rfl⟩⟩
  | clears => exact tableLegal_hubClear s
  | restarts => exact tableLegal_emptied rfl rfl (by simp [State.inReset, TriggerPort.atReset])

/-- Settles O53: a step is moves of the table, and each move keeps it legal. -/
theorem stepKeepsTableLegal : Obligations.StepKeepsTableLegal := by
  intro s t h hstep
  exact (step_tableMoves hstep).invariant (P := tableLegal) (fun _ _ => TableMove.keeps_tableLegal) h

/-! ### The identities stay consecutive (R2, R119, R120) -/

/-- The identities of the live records, and after them the one that the next record receives, follow one another (R2). -/
def identityChain (l : List Identity) (next : Identity) : Prop := (l ++ [next]).IsChain fun x y => y = successor x

theorem identitiesConsecutive_iff (s : State) :
    identitiesConsecutive s ↔ identityChain (s.table.map (·.identity)) (nextIdentity s) ∧
      (s.numbering.rollMark = true → s.numbering.nextNumber = 0) := by
  simp only [identitiesConsecutive, identityChain, List.isChain_append, List.isChain_map]
  simp [and_assoc]

/-- An empty table leaves nothing to follow. -/
theorem identityChain_nil (next : Identity) : identityChain [] next := List.isChain_singleton _

theorem identityChain_snoc {l : List Identity} {next : Identity} (h : identityChain l next) :
    identityChain (l ++ [next]) (successor next) :=
  List.isChain_append.mpr ⟨h, List.isChain_singleton _, by simp⟩

theorem identityChain_suffix {gone rest : List Identity} {next : Identity} (h : identityChain (gone ++ rest) next) :
    identityChain rest next := by
  unfold identityChain at h
  rw [List.append_assoc] at h
  exact h.right_of_append

@[simp] theorem newRecord_identity (s : State) : (newRecord s).identity = nextIdentity s := rfl

theorem nextIdentity_acceptFrame (s : State) : nextIdentity (acceptFrame s) = successor (nextIdentity s) := by
  by_cases hlast : s.numbering.nextNumber = 0xFFFFFF#24 <;>
    simp [nextIdentity, numberingAfterEntry, rollsOver, successor, hlast]

/-- An entry takes the next identity, whether its record stays or retires at once, and a roll-over leaves event number 0
(R119, R120). -/
theorem identitiesConsecutive_acceptFrame {s : State} (h : identitiesConsecutive s) :
    identitiesConsecutive (acceptFrame s) := by
  obtain ⟨hchain, -⟩ := (identitiesConsecutive_iff s).mp h
  refine (identitiesConsecutive_iff _).mpr ⟨?_, ?_⟩
  · rw [nextIdentity_acceptFrame, acceptFrame_table]
    rcases tableAfterEntry_cases s with ⟨-, ht⟩ | ⟨ht, -⟩
    · simpa [ht] using identityChain_nil _
    · simpa [ht] using identityChain_snoc hchain
  · intro hroll
    have hlast : s.numbering.nextNumber = 0xFFFFFF#24 := by simpa [numberingAfterEntry, rollsOver] using hroll
    simp [numberingAfterEntry, hlast]

theorem identitiesConsecutive_retryHeldFrame {s : State} (h : identitiesConsecutive s) :
    identitiesConsecutive (retryHeldFrame s) := by
  unfold retryHeldFrame
  split
  · exact identitiesConsecutive_acceptFrame h
  · exact h

theorem identitiesConsecutive_of_eq {s t : State} (ht : t.table = s.table) (hn : t.numbering = s.numbering)
    (h : identitiesConsecutive s) : identitiesConsecutive t := by
  simpa [identitiesConsecutive, nextIdentity, ht, hn] using h

theorem identitiesConsecutive_reevaluateBusy {s : State} (h : identitiesConsecutive s) :
    identitiesConsecutive (reevaluateBusy s) := identitiesConsecutive_of_eq (by simp) (by simp) h

/-- An epoch reset is applied to an empty table alone, and clears the roll mark (R122). -/
theorem identitiesConsecutive_applyEpochReset {s : State} (h : s.table = []) : identitiesConsecutive (applyEpochReset s) :=
  (identitiesConsecutive_iff _).mpr ⟨by simpa [h] using identityChain_nil _, fun _ => rfl⟩

theorem identitiesConsecutive_finishCascade {s : State} (h : identitiesConsecutive s) :
    identitiesConsecutive (finishCascade s) := by
  refine identitiesConsecutive_reevaluateBusy (identitiesConsecutive_retryHeldFrame ?_)
  split
  next hreset =>
    exact identitiesConsecutive_applyEpochReset (List.isEmpty_iff.mp (Bool.and_eq_true_iff.mp hreset).2)
  next => exact h

/-- Records leave at the head, so those that stay still follow one another. -/
theorem identitiesConsecutive_cascade {s : State} (h : identitiesConsecutive s) : identitiesConsecutive (cascade s) := by
  rcases cascade_cases s with ⟨he, -⟩ | ⟨gone, rest, ht, -, -, he⟩
  · rwa [he]
  · rw [he]
    refine identitiesConsecutive_finishCascade ((identitiesConsecutive_iff _).mpr ?_)
    obtain ⟨hchain, hroll⟩ := (identitiesConsecutive_iff s).mp h
    rw [ht, List.map_append] at hchain
    exact ⟨identityChain_suffix hchain, hroll⟩

theorem identitiesConsecutive_emptied {s : State} (ht : s.table = [])
    (hroll : s.numbering.rollMark = true → s.numbering.nextNumber = 0) : identitiesConsecutive s :=
  (identitiesConsecutive_iff s).mpr ⟨by simpa [ht] using identityChain_nil _, hroll⟩

theorem identitiesConsecutive_hubClear {s : State} (h : s.numbering.rollMark = true → s.numbering.nextNumber = 0) :
    identitiesConsecutive (hubClear s) := by
  refine identitiesConsecutive_retryHeldFrame (identitiesConsecutive_reevaluateBusy
    (identitiesConsecutive_of_eq (raiseFor_table _ _ _) (raiseFor_numbering _ _ _) ?_))
  split
  · exact identitiesConsecutive_applyEpochReset rfl
  · exact identitiesConsecutive_emptied rfl h

theorem identities_of_letsGo {l m : List EventRecord} (h : List.Forall₂ LetsGo l m) :
    m.map (·.identity) = l.map (·.identity) := by
  induction h with
  | nil => rfl
  | cons hxy _ ih => simp [hxy.1, ih]

/-- A table whose records have kept their identities. -/
theorem identitiesConsecutive_of_letsGo {s t : State} (around : SameAround s t) (records : List.Forall₂ LetsGo s.table t.table)
    (h : identitiesConsecutive s) : identitiesConsecutive t := by
  obtain ⟨hchain, hroll⟩ := (identitiesConsecutive_iff s).mp h
  have hnumber : t.numbering.nextNumber = s.numbering.nextNumber := congrArg Identity.number around.next
  refine (identitiesConsecutive_iff t).mpr ⟨?_, ?_⟩
  · rwa [identities_of_letsGo records, around.next]
  · rwa [around.rollMark, hnumber]

theorem TableMove.keeps_identities {s t : State} (hmove : TableMove s t) (h : identitiesConsecutive s) :
    identitiesConsecutive t := by
  cases hmove with
  | keeps around records => exact identitiesConsecutive_of_letsGo around (records.imp fun _ _ hxy => hxy.1) h
  | retires around records => exact identitiesConsecutive_cascade (identitiesConsecutive_of_letsGo around records h)
  | enters => exact identitiesConsecutive_acceptFrame h
  | holds => exact h
  | awaits => exact h
  | resets empty => exact identitiesConsecutive_applyEpochReset empty
  | clears => exact identitiesConsecutive_hubClear ((identitiesConsecutive_iff s).mp h).2
  | restarts => exact identitiesConsecutive_emptied rfl (fun _ => rfl)

/-- Settles O54: a step is moves of the table, and each move keeps the chain of identities. -/
theorem stepKeepsIdentitiesConsecutive : Obligations.StepKeepsIdentitiesConsecutive := by
  intro s t _ h hstep
  exact (step_tableMoves hstep).invariant (P := identitiesConsecutive) (fun _ _ => TableMove.keeps_identities) h

end Sys2Proof.Machine
end

section
/-! SUPPORT. Entry, the epoch reset and the answered command in the words of the statements, and with them what the events of the
event table do. -/

namespace Sys2Proof.Machine

/-! ### An answered command -/

/-- A port that takes a command stands past its effect point after it, with what the command answers (R147). -/
theorem command_answered {act : State → Answer} (hkeeps : KeepsPorts act) {r : Reader} {s : State} (h : takesCommand r s)
    (code : Byte) (args : List Byte) (hargs : args.length = argumentCount code) (length : Nat) :
    command r code args length act s =
      answered r code args (act s).status (replyBytes length (act s)) (act s).after := by
  obtain ⟨hhigh, hphase⟩ := h
  obtain ⟨hports, -, -⟩ := hkeeps s
  rw [command_listening (by simp [listening, hhigh, hphase]), latchAnswer_eq (by rw [hports, hphase]) code args length hargs]
  rfl

/-! ### Causes and the epoch reset -/

theorem raiseFor_eq_causesFor {who : ReaderSet} {f : Reader → Bool} (h : ∀ r, who.get r = f r) (c : Cause) (s : State) :
    raiseFor who c s = causesFor f (causeBit c) s := by
  obtain rfl : who.get = f := funext h
  rfl

@[simp] theorem attachedSet_get (s : State) (r : Reader) :
    (attachedSet s).get r = ((s.readers.get r).state == .attached) := by simp [attachedSet, isAttached]

@[simp] theorem lapsedSet_get (s : State) (r : Reader) :
    (lapsedSet s).get r = ((s.readers.get r).state == .lapsed) := by simp [lapsedSet]

theorem applyEpochReset_eq (s : State) : applyEpochReset s = epochApplied s := by
  have h := raiseFor_eq_causesFor (attachedSet_get s) .epoch s
  unfold applyEpochReset
  rw [h]
  rfl

/-! ### Entry (R12) -/

theorem routingOfFrame_eq (s : State) :
    routingOfFrame s =
      { rule := matchingRule s.rules s.trigger.frame.source s.trigger.frame.cls, routed := routedReaders s,
        sampled := sampledRecord s, rules := rulesAfterRouting s } := by
  unfold routingOfFrame route routedReaders sampledRecord rulesAfterRouting
  cases matchingRule s.rules s.trigger.frame.source s.trigger.frame.cls with
  | none => rfl
  | some i => simp [sampleDue, advanceCountdown]

theorem requiredOfFrame_eq (s : State) : requiredOfFrame s = requiredReaders s := by
  simp only [requiredOfFrame, routingOfFrame_eq, ReaderSet.inter, attachedSet_get, requiredReaders]

theorem newRecord_eq (s : State) : newRecord s = enteredRecord s := by
  simp only [newRecord, routingOfFrame_eq, requiredOfFrame_eq]
  rfl

theorem tableAfterEntry_eq (s : State) :
    tableAfterEntry s =
      if s.table = [] ∧ requiredReaders s = ⟨false, false, false, false⟩ then [] else s.table ++ [enteredRecord s] := by
  simp only [tableAfterEntry, requiredOfFrame_eq, newRecord_eq, Bool.and_eq_true, List.isEmpty_iff, beq_iff_eq]
  rfl

/-- Raising a cause puts its bit into the causes of the readers named. -/
theorem raiseFor_get_causes (who : ReaderSet) (c : Cause) (s : State) (r : Reader) :
    (raiseFor who c s).readers.get r =
      { s.readers.get r with causes := (s.readers.get r).causes ||| (if who.get r then causeBit c else 0) } := by
  rw [raiseFor_get]
  split <;> simp

/-- A cause raised for the ATTACHED readers on a condition. -/
theorem raiseIf_get_causes (b : Bool) (c : Cause) (s : State) (r : Reader) :
    (if b then raiseFor (attachedSet s) c s else s).readers.get r =
      { s.readers.get r with
        causes := (s.readers.get r).causes |||
          (if (s.readers.get r).state == .attached && b then causeBit c else 0) } := by
  cases b with
  | true => simp [raiseFor_get_causes]
  | false => simp

/-- The three causes of an entry, reader by reader (item 6 of R12). -/
theorem raiseEntryCauses_get (required : ReaderSet) (runStart rolled : Bool) (s : State) (r : Reader) :
    (raiseEntryCauses required runStart rolled s).readers.get r =
      { s.readers.get r with
        causes := (s.readers.get r).causes ||| (if required.get r then 0x001 else 0) |||
          (if (s.readers.get r).state == .attached && runStart then 0x010 else 0) |||
          (if (s.readers.get r).state == .attached && rolled then 0x008 else 0) } := by
  unfold raiseEntryCauses
  simp only [raiseIf_get_causes, raiseFor_get_causes]
  rfl

/-- The missed count saturates at 0xFFFF (R34). -/
theorem saturatingSucc_missed (x : BitVec 16) : saturatingSucc x = if x = 0xFFFF then 0xFFFF else x + 1 := by
  unfold saturatingSucc
  split
  next h => subst h; rfl
  next h => exact (if_neg h).symm

theorem entry_contexts (s : State) :
    (raiseEntryCauses (requiredOfFrame s) (startsRun s) (rollsOver s)
      (raiseMissed ((routedReaders s).inter (lapsedSet s)) s)).readers = s.readers.mapWith (contextAfterEntry s) := by
  refine PerReader.ext_get fun r => ?_
  rw [raiseEntryCauses_get, raiseMissed_get, PerReader.get_mapWith, requiredOfFrame_eq]
  simp only [ReaderSet.get_inter, lapsedSet_get, contextAfterEntry, ← saturatingSucc_missed]
  split <;> rfl

/-- The busy unit does not read the trigger port, so a frame may as well be decided before the re-evaluation. -/
theorem decideFrame_reevaluateBusy (answer : Response) (s : State) :
    decideFrame answer (reevaluateBusy s) = reevaluateBusy (decideFrame answer s) := by
  unfold decideFrame
  rw [reevaluateBusy_withTrigger, reevaluateBusy_trigger]

/-- Entry, whole and in one event, with its check byte acknowledged (R12, R13, R88). -/
theorem acceptFrame_eq (s : State) : acceptFrame s = reevaluateBusy (entryResult s) := by
  unfold acceptFrame enterRecord
  dsimp only
  rw [decideFrame_reevaluateBusy]
  refine congrArg reevaluateBusy ?_
  unfold decideFrame entryResult
  simp only [State.withTrigger, State.withCounters, State.withTable, State.withNumbering, State.withRules, entry_contexts,
    tableAfterEntry_eq, routingOfFrame_eq, raiseEntryCauses_pending, raiseEntryCauses_rstLow, raiseEntryCauses_timebase,
    raiseEntryCauses_busy, raiseEntryCauses_settings, raiseEntryCauses_token, raiseEntryCauses_ports]
  rfl

theorem retryHeldFrame_eq {s : State} (h : s.trigger.state = .holding) (room : s.table.length < 64) :
    retryHeldFrame s = reevaluateBusy (entryResult s) :=
  (retryHeldFrame_enters h room).trans (acceptFrame_eq s)

/-- Settles O20: at the check byte and in HOLDING alike, what happens is the one entry of `acceptFrame_eq`. -/
theorem entryMakesTheRecord : Obligations.EntryMakesTheRecord := by
  refine ⟨fun byte s hhigh hstate hkind hsum hfree hroom => ?_, fun s hhigh hstate hroom => ?_, fun s hnone => ?_⟩
  · have hright : sumRight byte s = true := by simp [sumRight, hsum]
    have hcheck : judgeTriggerCheck byte s = acceptFrame s := by
      simp [judgeTriggerCheck, hright, hfree, fill, hroom]
    have hbyte : receiveByte byte s = judgeTriggerCheck byte s := by simp [receiveByte, hstate, hkind]
    show Host.Outcome.next (whileRunning (receiveByte byte) s) = _
    rw [whileRunning_high _ hhigh, hbyte, hcheck, acceptFrame_eq]
  · show Host.Outcome.next (whileRunning retryHeldFrame s) = _
    rw [whileRunning_high _ hhigh, retryHeldFrame_eq hstate hroom]
  · have hretry : retryHeldFrame s = s := if_neg hnone
    show Host.Outcome.next (whileRunning retryHeldFrame s) = _
    simp [whileRunning, hretry]

/-! ### The cascade (R21, R22) -/

theorem complete_iff (x : EventRecord) : complete x = true ↔ x.released = x.required := by simp [complete]

theorem not_complete_iff (x : EventRecord) : complete x = false ↔ x.released ≠ x.required := by simp [complete]

/-- A pending reset that finds the table empty, in the words of the statements (R22). -/
theorem resetAtEmptyTable_eq (s : State) :
    (if s.numbering.epochPending && s.table.isEmpty then applyEpochReset s else s) =
      if s.numbering.epochPending = true ∧ s.table = [] then epochApplied s else s := by
  simp [applyEpochReset_eq]

/-- Settles O35: `cascade_of_head_waits` and `cascade_retires`, with the waiting frame's entry where one waits. -/
theorem cascadeRetiresFromTheHead : Obligations.CascadeRetiresFromTheHead := by
  refine ⟨fun s hhead => cascade_of_head_waits fun x hx => (not_complete_iff x).mpr (hhead x hx), ?_⟩
  intro s gone rest ht hne hgone hrest t u
  have hcascade : cascade s = reevaluateBusy (retryHeldFrame u) := by
    rw [cascade_retires ht hne (fun x hx => (complete_iff x).mpr (hgone x hx))
      (fun x hx => (not_complete_iff x).mpr (hrest x hx))]
    exact congrArg (fun v => reevaluateBusy (retryHeldFrame v)) (resetAtEmptyTable_eq (s.withTable rest))
  have htrigger : u.trigger = s.trigger := by simp only [u]; split <;> rfl
  have htable : u.table = rest := by simp only [u]; split <;> rfl
  refine ⟨fun hfree => ?_, fun hholding hroom => ?_⟩
  · rw [hcascade, retryHeldFrame_not_holding (by rwa [htrigger])]
  · rw [hcascade, retryHeldFrame_eq (by rwa [htrigger]) (by rwa [htable]), reevaluateBusy_idem]

/-! ### CLEAR (R24) -/

/-- An applied epoch reset raises causes, and leaves every reader in its state. -/
theorem epochApplied_readerState (s : State) (q : Reader) :
    ((epochApplied s).readers.get q).state = (s.readers.get q).state := by
  simp only [epochApplied, causesFor, PerReader.get_mapWith]
  split <;> rfl

theorem hubClear_eq (s : State) :
    hubClear s = retryHeldFrame (reevaluateBusy (causesFor
      (fun q => (s.readers.get q).state == .attached || (s.readers.get q).state == .lapsed) 0x020
      (if s.numbering.epochPending then epochApplied (tableCleared s) else tableCleared s))) := by
  have hreset : (if (emptyHub s).numbering.epochPending then applyEpochReset (emptyHub s) else emptyHub s) =
      if s.numbering.epochPending then epochApplied (tableCleared s) else tableCleared s := by
    rw [applyEpochReset_eq]; rfl
  unfold hubClear
  dsimp only
  rw [hreset, raiseFor_eq_causesFor fun q => ?_]
  · rfl
  · rw [ReaderSet.get_union, attachedSet_get, lapsedSet_get]
    split <;> simp [epochApplied_readerState, tableCleared]

/-- Settles O47: the seven steps of `hubClear_eq`, with the waiting frame's entry where one waits. -/
theorem clearEmptiesTheTable : Obligations.ClearEmptiesTheTable := by
  intro r s htakes emptied told
  have hclear : exec (.clear r) s = .next (command r 0x39 [] 0 (answerClear r) s) := rfl
  rw [hclear, command_answered (keeps_clear r) htakes 0x39 [] rfl]
  have htrigger : told.trigger.state = s.trigger.state := by
    simp only [told, emptied, reevaluateBusy_trigger]; split <;> rfl
  have htable : told.table = [] := by
    simp only [told, emptied, reevaluateBusy_table]; split <;> rfl
  have hholder (h : s.token = some r) : answerClear r s = perform [] (retryHeldFrame told) := by
    simp [answerClear, holdsToken, h, hubClear_eq, told, emptied]
  refine ⟨fun h hfree => ?_, fun h hholding => ?_, fun h => ?_⟩
  · rw [hholder h, retryHeldFrame_not_holding (by rwa [htrigger])]
    rfl
  · rw [hholder h, retryHeldFrame_eq (by rwa [htrigger]) (by simp [htable])]
    rfl
  · have : answerClear r s = refuse .notHolder s := by simp [answerClear, holdsToken, h]
    rw [this]
    rfl

/-! ### Releases of one record (R17, R49, R50, R51, R68) -/

theorem timerForNext_eq_loaded (limit : Nat) (l : List Identity) : timerForNext limit l = loaded limit l := by
  cases l <;> simp [timerForNext, loaded, loadHoldTimer]

theorem reloadHoldTimer_eq (old : HoldTimer) (limit : Nat) (l : List Identity) :
    reloadHoldTimer old (timerForNext limit l) = reloaded old limit l := by
  rw [timerForNext_eq_loaded]
  unfold reloadHoldTimer reloaded
  cases old with
  | pulseDue => cases loaded limit l <;> rfl
  | stopped | untimed | running => rfl

/-- The first record of the identity that the reader has taken, anywhere in the table, is the one that it lets go. -/
theorem modifyFirst_heldAs {r : Reader} {id : Identity} {before after : List EventRecord} {x : EventRecord}
    (f : EventRecord → EventRecord) (hid : x.identity = id) (htaken : x.taken.get r = true)
    (hbefore : ∀ y ∈ before, y.identity ≠ id) :
    modifyFirst (heldAs r id) f (before ++ x :: after) = before ++ f x :: after :=
  modifyFirst_split _ f (fun y hy => by simp [heldAs, hbefore y hy]) (by simp [heldAs, hid, htaken])

theorem removeEntry_eq {c : ReaderContext} {id : Identity} {first others : List Identity}
    (hlist : c.holdList = first ++ id :: others) (hfirst : id ∉ first) :
    removeEntry id c =
      { c with
        holdList := first ++ others
        holdTimer := if first = [] then reloaded c.holdTimer c.settings.holdLimit others else c.holdTimer } := by
  have herase : c.holdList.erase id = first ++ others := by
    rw [hlist, List.erase_append_right _ hfirst, List.erase_cons_head]
  unfold removeEntry
  rw [herase, reloadHoldTimer_eq]
  cases first with
  | nil => simp [hlist]
  | cons y l =>
    have : y ≠ id := fun h => hfirst (h ▸ List.mem_cons_self)
    simp [hlist, this]

theorem releaseEntry_eq {r : Reader} {s : State} {x : EventRecord} {id : Identity} {before after : List EventRecord}
    {first others : List Identity} (hlist : (s.readers.get r).holdList = first ++ id :: others) (hfirst : id ∉ first)
    (ht : s.table = before ++ x :: after) (hid : x.identity = id) (htaken : x.taken.get r = true)
    (hbefore : ∀ y ∈ before, y.identity ≠ id) :
    releaseEntry r id s = cascade { s with
      table := before ++ doneBy r x :: after
      readers := s.readers.set r { s.readers.get r with
        holdList := first ++ others
        holdTimer := if first = [] then reloaded (s.readers.get r).holdTimer (s.readers.get r).settings.holdLimit others
          else (s.readers.get r).holdTimer } } := by
  have htable : releaseIn r id s.table = before ++ doneBy r x :: after := by
    rw [ht]; exact modifyFirst_heldAs (releaseRecord r) hid htaken hbefore
  unfold releaseEntry
  rw [htable, State.modifyReader, State.withTable_readers, removeEntry_eq hlist hfirst]
  rfl

/-! The answers of RELEASE and RELEASE_OLDEST, case by case. -/

theorem answerRelease_badState {r : Reader} {s : State} (h : (s.readers.get r).state ≠ .attached) (id : Identity) :
    answerRelease r id s = refuse .badState s := if_pos h

theorem answerRelease_notHeld {r : Reader} {s : State} {id : Identity} (h : (s.readers.get r).state = .attached)
    (hnot : id ∉ (s.readers.get r).holdList) : answerRelease r id s = refuse .notHeld s := by
  simp [answerRelease, h, hnot]

theorem answerRelease_held {r : Reader} {s : State} {id : Identity} (h : (s.readers.get r).state = .attached)
    (hheld : id ∈ (s.readers.get r).holdList) : answerRelease r id s = perform [] (releaseEntry r id s) := by
  simp [answerRelease, h, hheld]

theorem answerReleaseOldest_badState {r : Reader} {s : State} (h : (s.readers.get r).state ≠ .attached) :
    answerReleaseOldest r s = refuse .badState s := if_pos h

theorem answerReleaseOldest_notHeld {r : Reader} {s : State} (h : (s.readers.get r).state = .attached)
    (hnil : (s.readers.get r).holdList = []) : answerReleaseOldest r s = refuse .notHeld s := by
  simp [answerReleaseOldest, h, hnil]

theorem answerReleaseOldest_first {r : Reader} {s : State} {id : Identity} {others : List Identity}
    (h : (s.readers.get r).state = .attached) (hlist : (s.readers.get r).holdList = id :: others) :
    answerReleaseOldest r s = perform [] (releaseEntry r id s) := by
  simp [answerReleaseOldest, h, hlist]

/-- Settles O34: both commands are the one release of `releaseEntry_eq`, or a refusal. -/
theorem releaseLetsTheRecordGo : Obligations.ReleaseLetsTheRecordGo := by
  intro r e n s htakes c args
  have hrelease : exec (.release r e n) s = .next (answered r 0x11 args (answerRelease r ⟨e, n⟩ s).status
      (replyBytes 0 (answerRelease r ⟨e, n⟩ s)) (answerRelease r ⟨e, n⟩ s).after) := by
    have hexec : exec (.release r e n) s =
      .next (command r 0x11 (e :: bigEndian 3 n.toNat) 0 (answerRelease r ⟨e, n⟩) s) := rfl
    rw [hexec, bigEndian_three, command_answered (keeps_release r _) htakes 0x11 _ rfl]
  have holdest : exec (.releaseOldest r) s = .next (answered r 0x12 [] (answerReleaseOldest r s).status
      (replyBytes 0 (answerReleaseOldest r s)) (answerReleaseOldest r s).after) := by
    have hexec : exec (.releaseOldest r) s = .next (command r 0x12 [] 0 (answerReleaseOldest r) s) := rfl
    rw [hexec, command_answered (keeps_releaseOldest r) htakes 0x12 _ rfl]
  rw [hrelease, holdest]
  refine ⟨?_, fun hstate => ?_, fun hstate hnot => ?_, fun hstate hnil => ?_⟩
  · intro before x after first others hstate hlist hfirst ht hid htaken hbefore u
    have hu : releaseEntry r ⟨e, n⟩ s = u := releaseEntry_eq hlist hfirst ht hid htaken hbefore
    have hheld : (⟨e, n⟩ : Identity) ∈ (s.readers.get r).holdList := hlist ▸ List.mem_append_cons_self
    refine ⟨by rw [answerRelease_held hstate hheld, hu]; rfl, fun hnil => ?_⟩
    subst hnil
    rw [answerReleaseOldest_first hstate hlist, hu]
    rfl
  · rw [answerRelease_badState hstate, answerReleaseOldest_badState hstate]
    exact ⟨rfl, rfl⟩
  · rw [answerRelease_notHeld hstate hnot]
    rfl
  · rw [answerReleaseOldest_notHeld hstate hnil]
    rfl

/-! ### A hold expiry under FORCE (R71) -/

theorem expireForce_eq {r : Reader} {s : State} {x : EventRecord} {before after : List EventRecord} {rest : List Identity}
    (hlist : (s.readers.get r).holdList = x.identity :: rest) (ht : s.table = before ++ x :: after)
    (htaken : x.taken.get r = true) (hbefore : ∀ y ∈ before, y.identity ≠ x.identity) :
    expireForce r s =
      (cascade { s with
        table := before ++ { doneBy r x with forced := true } :: after
        readers := s.readers.set r { s.readers.get r with holdList := rest, causes := (s.readers.get r).causes ||| 0x002 }
        counters := { s.counters with
          forcedReleases := s.counters.forcedReleases.set r (s.counters.forcedReleases.get r + 1) } }).modifyReader r
        fun c => { c with holdTimer := timerForNext c.settings.holdLimit rest } := by
  have htable : forceReleaseIn r x.identity s.table = before ++ { doneBy r x with forced := true } :: after := by
    rw [ht]; exact modifyFirst_heldAs (forceReleaseRecord r) rfl htaken hbefore
  unfold expireForce
  simp only [hlist, htable]
  simp [raise, countForced, State.modifyReader, State.withReaders, State.withTable, State.withCounters, causeBit, causeNumber]

/-- Settles O7: `expireForce_eq`, and a cascade leaves HOLD_LIMIT alone, so the timer loads with it. -/
theorem holdExpiryUnderForce : Obligations.HoldExpiryUnderForce := by
  intro r s before after x rest hhigh hdue hpolicy hlist ht htaken hbefore c u
  have hexpiry : takeHoldExpiry r s = expireForce r s := by simp [takeHoldExpiry, hdue, hpolicy]
  have hlimit : (u.readers.get r).settings.holdLimit = c.settings.holdLimit := by
    simp [u, c]
  show Host.Outcome.next (whileRunning (takeHoldExpiry r) s) = _
  rw [whileRunning_high _ hhigh, hexpiry, expireForce_eq hlist ht htaken hbefore, State.modifyReader]
  refine congrArg Host.Outcome.next ?_
  show u.withReaders (u.readers.set r { u.readers.get r with
    holdTimer := timerForNext (u.readers.get r).settings.holdLimit rest }) = _
  rw [hlimit, timerForNext_eq_loaded]
  rfl

end Sys2Proof.Machine
end

section
/-! SUPPORT. The invariants of the whole hub at reset. -/

namespace Sys2Proof.Machine

/-! ### Every reader, rule and port at reset -/

@[simp] theorem reset_readers_get (r : Reader) : State.reset.readers.get r = ReaderContext.atReset := by
  cases r <;> rfl

@[simp] theorem reset_rules_get (i : Fin 8) : State.reset.rules.get i = RoutingRule.atReset := by
  fin_cases i <;> rfl

@[simp] theorem reset_ports_get (r : Reader) : State.reset.ports.get r = ReaderPort.idleAt false := by
  cases r <;> rfl

/-! ### The invariants -/

theorem settingsLegal_reset : settingsLegal State.reset := by
  refine ⟨?_, fun r => ?_, fun i => ?_⟩
  · unfold Settings.Legal; decide
  · rw [reset_readers_get]; unfold ReaderSettings.Legal; decide
  · rw [reset_rules_get]; unfold RoutingRule.Legal; decide

theorem tableLegal_reset : tableLegal State.reset := tableLegal_emptied rfl rfl (by decide)

theorem identitiesConsecutive_reset : identitiesConsecutive State.reset := identitiesConsecutive_emptied rfl fun _ => rfl

/-- No record is taken, and the hold lists are empty. -/
theorem readersMatchTable_reset : readersMatchTable State.reset := by
  intro r
  have ht : State.reset.table = [] := rfl
  simp [readerMatchesTable, takenBy, ht, ReaderContext.atReset]

theorem timersLegal_reset : timersLegal State.reset := by
  refine ⟨fun r => ?_, by decide, nofun⟩
  rw [reset_readers_get]
  exact ⟨by decide, nofun⟩

/-- BUSY is asserted with 4 in the minimum-hold timer, and FILL is inactive at an empty table (R141). -/
theorem busyLegal_reset : busyLegal State.reset := by
  refine ⟨by decide, by decide, fun v hv => ?_, by decide, by decide⟩
  obtain rfl : 4 = v := by injection hv
  decide

theorem timebaseLegal_reset : timebaseLegal State.reset := by unfold timebaseLegal; decide

theorem frameLegal_reset : frameLegal State.reset.trigger := ⟨rfl, by decide, by decide⟩

theorem portsLegal_reset : portsLegal State.reset := by
  intro r
  rw [reset_ports_get]
  exact ⟨fun h => absurd rfl h, fun _ => rfl, nofun, nofun⟩

theorem resetStands_reset : resetStands State.reset := nofun

/-- Settles O51, invariant by invariant. -/
theorem invariantsHoldAtReset : Obligations.InvariantsHoldAtReset :=
  ⟨settingsLegal_reset, tableLegal_reset, identitiesConsecutive_reset, readersMatchTable_reset, timersLegal_reset,
    busyLegal_reset, timebaseLegal_reset, frameLegal_reset, portsLegal_reset, resetStands_reset⟩

end Sys2Proof.Machine
end


section
/-! SUPPORT. The settings' and the rules' part of every event: a step lets countdowns run, stores a setting, writes a rule or resets the
hub. Every invariant of settings and rules is proved of these four, and no proof of one unfolds a command. -/

namespace Sys2Proof.Machine

/-! ### What all but a few events keep -/

/-- The settings and the rules stay as they were written, and nothing but countdowns may have run (R31). -/
structure KeepsConfig (s t : State) : Prop where
  shared   : t.settings = s.settings
  ofReader : ∀ r, (t.readers.get r).settings = (s.readers.get r).settings
  rules    : ∀ i, ∃ k, t.rules.get i = advanceCountdown^[k] (s.rules.get i)

/-- Events that leave the rules alone. -/
theorem keepsConfig_of_rules {s t : State} (hs : t.settings = s.settings)
    (hc : ∀ r, (t.readers.get r).settings = (s.readers.get r).settings) (hr : t.rules = s.rules) : KeepsConfig s t :=
  ⟨hs, hc, fun i => ⟨0, by rw [hr]; rfl⟩⟩

/-- Events that leave the readers' contexts alone, too. -/
theorem keepsConfig_of_eq {s t : State} (hs : t.settings = s.settings) (hc : t.readers = s.readers) (hr : t.rules = s.rules) :
    KeepsConfig s t := keepsConfig_of_rules hs (fun r => by rw [hc]) hr

theorem KeepsConfig.refl (s : State) : KeepsConfig s s := keepsConfig_of_eq rfl rfl rfl

theorem KeepsConfig.trans {s t u : State} (h : KeepsConfig s t) (h' : KeepsConfig t u) : KeepsConfig s u := by
  refine ⟨h'.shared.trans h.shared, fun r => (h'.ofReader r).trans (h.ofReader r), fun i => ?_⟩
  obtain ⟨m, hm⟩ := h.rules i
  obtain ⟨n, hn⟩ := h'.rules i
  exact ⟨n + m, by rw [hn, hm, Function.iterate_add_apply]⟩

theorem keepsConfig_modifyReader (s : State) (r : Reader) (f : ReaderContext → ReaderContext)
    (hf : ∀ c, (f c).settings = c.settings) : KeepsConfig s (s.modifyReader r f) := by
  refine keepsConfig_of_rules rfl (fun q => ?_) rfl
  rw [State.modifyReader_readers, PerReader.get_set]
  split
  next h => rw [h, hf]
  next => rfl

theorem keepsConfig_withTable (s : State) (l : List EventRecord) : KeepsConfig s (s.withTable l) :=
  keepsConfig_of_eq rfl rfl rfl

theorem keepsConfig_withCounters (s : State) (x : Counters) : KeepsConfig s (s.withCounters x) :=
  keepsConfig_of_eq rfl rfl rfl

/-- Where the contexts differ in causes and missed counts alone, the readers' settings stand. -/
theorem keepsConfig_of_sameContexts {s t : State} (h : SameContexts s t) (hs : t.settings = s.settings)
    (hr : t.rules = s.rules) : KeepsConfig s t :=
  keepsConfig_of_rules hs (fun r => by rw [h r]) hr

/-! ### The operations that commands share -/

theorem keepsConfig_raiseFor (who : ReaderSet) (c : Cause) (s : State) : KeepsConfig s (raiseFor who c s) :=
  keepsConfig_of_sameContexts (sameContexts_raiseFor who c s) rfl rfl

theorem keepsConfig_raise (r : Reader) (c : Cause) (s : State) : KeepsConfig s (raise r c s) :=
  keepsConfig_modifyReader s r _ fun _ => rfl

theorem keepsConfig_reevaluateBusy (s : State) : KeepsConfig s (reevaluateBusy s) :=
  keepsConfig_of_eq (by simp) (by simp) (by simp)

theorem keepsConfig_applyEpochReset (s : State) : KeepsConfig s (applyEpochReset s) :=
  keepsConfig_of_sameContexts (sameContexts_applyEpochReset s) rfl rfl

/-- An entry moves the countdown of its matching rule, and no other (R31). -/
theorem keepsConfig_acceptFrame (s : State) : KeepsConfig s (acceptFrame s) := by
  refine ⟨by simp, fun r => by rw [sameContexts_acceptFrame s r], fun i => ?_⟩
  have hrules : (acceptFrame s).rules = (routingOfFrame s).rules := by simp [acceptFrame]
  rw [hrules, routingOfFrame, route]
  split
  next => exact ⟨0, rfl⟩
  next j _ =>
    by_cases h : i = j
    · exact ⟨1, by simp [h]⟩
    · exact ⟨0, RuleTable.get_set_other _ h _⟩

theorem keepsConfig_retryHeldFrame (s : State) : KeepsConfig s (retryHeldFrame s) := by
  unfold retryHeldFrame
  split
  · exact keepsConfig_acceptFrame s
  · exact .refl s

theorem keepsConfig_finishCascade (s : State) : KeepsConfig s (finishCascade s) := by
  refine .trans ?_ ((keepsConfig_retryHeldFrame _).trans (keepsConfig_reevaluateBusy _))
  split
  · exact keepsConfig_applyEpochReset s
  · exact .refl s

theorem keepsConfig_cascade (s : State) : KeepsConfig s (cascade s) := by
  rcases cascade_cases s with ⟨he, -⟩ | ⟨_, rest, -, -, -, he⟩
  · rw [he]; exact .refl s
  · rw [he]; exact (keepsConfig_withTable s rest).trans (keepsConfig_finishCascade _)

theorem keepsConfig_massRelease (r : Reader) (x : ReaderState) (s : State) : KeepsConfig s (massRelease r x s) :=
  (keepsConfig_withTable s _).trans (keepsConfig_modifyReader _ r (withdraw x) fun _ => rfl)

/-! ### Expiries and the timebase -/

theorem keepsConfig_countForced (r : Reader) (n : Nat) (s : State) : KeepsConfig s (countForced r n s) :=
  keepsConfig_withCounters s _

theorem keepsConfig_expireForce (r : Reader) (s : State) : KeepsConfig s (expireForce r s) := by
  unfold expireForce
  split
  next => exact keepsConfig_modifyReader s r _ fun _ => rfl
  next =>
    refine .trans ?_ (keepsConfig_modifyReader _ r _ fun _ => rfl)
    refine .trans ?_ (keepsConfig_cascade _)
    refine .trans ?_ ((keepsConfig_countForced r 1 _).trans (keepsConfig_raise r .forced _))
    exact (keepsConfig_withTable s _).trans (keepsConfig_modifyReader _ r _ fun _ => rfl)

theorem keepsConfig_expireLapse (r : Reader) (s : State) : KeepsConfig s (expireLapse r s) := by
  unfold expireLapse
  refine .trans ?_ ((keepsConfig_cascade _).trans (keepsConfig_reevaluateBusy _))
  refine .trans ?_ ((keepsConfig_massRelease r .lapsed _).trans (keepsConfig_raise r .lapsed _))
  exact (keepsConfig_withTable s _).trans (keepsConfig_countForced r _ _)

theorem keepsConfig_takeHoldExpiry (r : Reader) (s : State) : KeepsConfig s (takeHoldExpiry r s) := by
  unfold takeHoldExpiry
  split
  · split
    · exact keepsConfig_expireForce r s
    · exact keepsConfig_expireLapse r s
  · exact .refl s

theorem keepsConfig_takeStretchExpiry (s : State) : KeepsConfig s (takeStretchExpiry s) :=
  keepsConfig_of_eq (by simp) (by simp) (by simp)

theorem keepsConfig_takeMinimumHoldExpiry (s : State) : KeepsConfig s (takeMinimumHoldExpiry s) :=
  keepsConfig_of_eq (by simp) (by simp) (by simp)

theorem keepsConfig_takeDueEvents (s : State) : KeepsConfig s (takeDueEvents s) :=
  (keepsConfig_takeHoldExpiry .a s).trans <| (keepsConfig_takeHoldExpiry .b _).trans <|
    (keepsConfig_takeHoldExpiry .c _).trans <| (keepsConfig_takeHoldExpiry .d _).trans <|
    (keepsConfig_takeStretchExpiry _).trans (keepsConfig_takeMinimumHoldExpiry _)

theorem keepsConfig_withTimebase (s : State) (x : Timebase) : KeepsConfig s (s.withTimebase x) :=
  keepsConfig_of_eq rfl rfl rfl

theorem keepsConfig_completeSettle (s : State) : KeepsConfig s (completeSettle s) :=
  (keepsConfig_withTimebase s _).trans ((keepsConfig_raiseFor _ _ _).trans (keepsConfig_reevaluateBusy _))

theorem keepsConfig_settleEdges (n : Nat) (s : State) : KeepsConfig s (settleEdges n s) := by
  unfold settleEdges
  split
  · split
    · exact keepsConfig_completeSettle s
    · exact keepsConfig_withTimebase s _
  · exact .refl s

theorem keepsConfig_coarsePulse (s : State) : KeepsConfig s (coarsePulse s) :=
  keepsConfig_of_eq (by simp) (by simp) (by simp)

theorem keepsConfig_holdPulses (s : State) : KeepsConfig s (holdPulses s) := by
  refine keepsConfig_of_rules rfl (fun r => ?_) rfl
  simp only [holdPulses, State.withReaders_readers, PerReader.get_mapWith]
  split <;> rfl

theorem keepsConfig_countTick (s : State) : KeepsConfig s (countTick s) :=
  (keepsConfig_withTimebase s _).trans <| (keepsConfig_settleEdges _ _).trans <| (keepsConfig_withTimebase _ _).trans <|
    (keepsConfig_coarsePulse _).trans <| (keepsConfig_holdPulses _).trans (keepsConfig_settleEdges _ _)

theorem keepsConfig_takeTick (s : State) : KeepsConfig s (takeTick s) :=
  (keepsConfig_takeDueEvents s).trans (keepsConfig_countTick _)

theorem keepsConfig_takeDueTick (s : State) : KeepsConfig s (takeDueTick s) := by
  unfold takeDueTick
  split
  · exact keepsConfig_takeTick s
  · exact .refl s

theorem keepsConfig_countRefclkEdge (s : State) : KeepsConfig s (countRefclkEdge s) := by
  unfold countRefclkEdge
  split
  · exact (keepsConfig_takeDueTick s).trans ((keepsConfig_withTimebase _ _).trans (keepsConfig_settleEdges _ _))
  · exact keepsConfig_withTimebase s _

theorem keepsConfig_takeSettleComplete (s : State) : KeepsConfig s (takeSettleComplete s) := by
  unfold takeSettleComplete
  dsimp only
  split
  · exact (keepsConfig_takeDueTick s).trans ((keepsConfig_withTimebase _ _).trans (keepsConfig_completeSettle _))
  · exact .refl s

theorem keepsConfig_fallback (s : State) : KeepsConfig s (fallback s) := by
  exact (keepsConfig_withTimebase s _).trans <| (keepsConfig_raiseFor _ _ _).trans <|
    (keepsConfig_withCounters _ _).trans (keepsConfig_reevaluateBusy _)

theorem keepsConfig_loseRefclk (s : State) : KeepsConfig s (loseRefclk s) := by
  unfold loseRefclk
  split
  · exact (keepsConfig_takeDueTick s).trans ((keepsConfig_withTimebase _ _).trans (keepsConfig_fallback _))
  · exact keepsConfig_withTimebase s _

theorem keepsConfig_switchReference (x : ReferenceSelection) (s : State) : KeepsConfig s (switchReference x s) :=
  (keepsConfig_takeDueTick s).trans ((keepsConfig_withTimebase _ _).trans (keepsConfig_reevaluateBusy _))

theorem keepsConfig_restartDivider (s : State) : KeepsConfig s (restartDivider s) :=
  (keepsConfig_takeDueTick s).trans (keepsConfig_withTimebase _ _)

/-! ### The trigger bus -/

theorem keepsConfig_countTruncation (s : State) : KeepsConfig s (countTruncation s) := by
  unfold countTruncation; split <;> exact keepsConfig_of_eq rfl rfl rfl

theorem keepsConfig_withTrigger (s : State) (p : TriggerPort) : KeepsConfig s (s.withTrigger p) :=
  keepsConfig_of_eq rfl rfl rfl

theorem keepsConfig_takeStartMark (s : State) : KeepsConfig s (takeStartMark s) := by
  unfold takeStartMark
  split
  · exact .refl s
  · exact (keepsConfig_countTruncation s).trans (keepsConfig_withTrigger _ _)

theorem keepsConfig_takeStopMark (s : State) : KeepsConfig s (takeStopMark s) := by
  unfold takeStopMark
  split
  · exact .refl s
  · exact (keepsConfig_countTruncation s).trans (keepsConfig_withTrigger _ _)

theorem keepsConfig_decideFrame (answer : Response) (s : State) : KeepsConfig s (decideFrame answer s) :=
  keepsConfig_withTrigger s _

theorem keepsConfig_badFrame (s : State) : KeepsConfig s (badFrame s) := keepsConfig_of_eq rfl rfl rfl

theorem keepsConfig_judgeAddress (byte : Byte) (s : State) : KeepsConfig s (judgeAddress byte s) := by
  unfold judgeAddress; (repeat' split) <;> exact keepsConfig_withTrigger s _

theorem keepsConfig_judgeHeader (byte : Byte) (s : State) : KeepsConfig s (judgeHeader byte s) := by
  unfold judgeHeader
  dsimp only
  split
  · exact keepsConfig_badFrame s
  · exact keepsConfig_withTrigger s _
  · exact keepsConfig_withTrigger s _

theorem keepsConfig_judgeClass (byte : Byte) (s : State) : KeepsConfig s (judgeClass byte s) := by
  unfold judgeClass
  dsimp only
  split
  · exact keepsConfig_withTrigger s _
  · exact keepsConfig_badFrame s

theorem keepsConfig_judgeTriggerCheck (byte : Byte) (s : State) : KeepsConfig s (judgeTriggerCheck byte s) := by
  unfold judgeTriggerCheck
  split
  · exact keepsConfig_badFrame s
  split
  · exact keepsConfig_of_eq rfl rfl rfl
  split
  · exact keepsConfig_acceptFrame s
  split
  · exact keepsConfig_of_eq rfl rfl rfl
  · exact keepsConfig_of_eq rfl rfl rfl

theorem keepsConfig_requestEpochReset (s : State) : KeepsConfig s (requestEpochReset s) := by
  unfold requestEpochReset
  split
  · exact .refl s
  split
  · exact (keepsConfig_applyEpochReset s).trans (keepsConfig_reevaluateBusy _)
  · exact keepsConfig_of_eq (by simp) (by simp) (by simp)

theorem keepsConfig_judgeEpochCheck (byte : Byte) (s : State) : KeepsConfig s (judgeEpochCheck byte s) := by
  unfold judgeEpochCheck
  split
  · exact keepsConfig_badFrame s
  split
  · exact keepsConfig_decideFrame _ s
  · exact (keepsConfig_requestEpochReset s).trans (keepsConfig_decideFrame _ _)

theorem keepsConfig_receiveByte (byte : Byte) (s : State) : KeepsConfig s (receiveByte byte s) := by
  unfold receiveByte
  split
  · exact keepsConfig_withTrigger s _
  · exact keepsConfig_withTrigger s _
  · exact keepsConfig_judgeAddress byte s
  · exact keepsConfig_judgeHeader byte s
  · exact keepsConfig_judgeClass byte s
  · exact keepsConfig_withTrigger s _
  · split
    · exact keepsConfig_judgeTriggerCheck byte s
    · exact keepsConfig_judgeEpochCheck byte s
  · exact .refl s
  · exact .refl s

theorem keepsConfig_sendStatusByte (acknowledged : Bool) (s : State) : KeepsConfig s (sendStatusByte acknowledged s) := by
  unfold sendStatusByte
  split
  · split <;> exact keepsConfig_withTrigger s _
  · exact .refl s

/-- EPOCH_RESET: a pending reset at an empty table (R122). -/
theorem keepsConfig_takeEpochReset (s : State) :
    KeepsConfig s (if s.numbering.epochPending && s.table.isEmpty then reevaluateBusy (applyEpochReset s) else s) := by
  split
  · exact (keepsConfig_applyEpochReset s).trans (keepsConfig_reevaluateBusy _)
  · exact .refl s

/-! ### The readers' commands -/

theorem keepsConfig_answerCauses (r : Reader) (s : State) : KeepsConfig s (answerCauses r s).after :=
  keepsConfig_modifyReader s r (fun c => { c with causes := 0 }) fun _ => rfl

theorem keepsConfig_answerTake (r : Reader) (s : State) : KeepsConfig s (answerTake r s).after := by
  unfold answerTake
  dsimp only
  split
  · exact .refl s
  split
  · exact .refl s
  split
  · exact .refl s
  · refine .trans ?_ (keepsConfig_withCounters _ _)
    exact (keepsConfig_withTable s _).trans (keepsConfig_modifyReader _ r (addEntry _) fun _ => rfl)

theorem keepsConfig_releaseEntry (r : Reader) (x : Identity) (s : State) : KeepsConfig s (releaseEntry r x s) :=
  (keepsConfig_withTable s _).trans <|
    (keepsConfig_modifyReader _ r (removeEntry x) fun _ => rfl).trans (keepsConfig_cascade _)

theorem keepsConfig_answerRelease (r : Reader) (x : Identity) (s : State) : KeepsConfig s (answerRelease r x s).after := by
  unfold answerRelease
  dsimp only
  split
  · exact .refl s
  split
  · exact keepsConfig_releaseEntry r x s
  · exact .refl s

theorem keepsConfig_answerReleaseOldest (r : Reader) (s : State) : KeepsConfig s (answerReleaseOldest r s).after := by
  unfold answerReleaseOldest
  dsimp only
  split
  · exact .refl s
  split
  · exact .refl s
  · exact keepsConfig_releaseEntry r _ s

theorem keepsConfig_modifyReader_reevaluateBusy (s : State) (r : Reader) (f : ReaderContext → ReaderContext)
    (hf : ∀ c, (f c).settings = c.settings) : KeepsConfig s (reevaluateBusy (s.modifyReader r f)) :=
  (keepsConfig_modifyReader s r f hf).trans (keepsConfig_reevaluateBusy _)

theorem keepsConfig_answerAttach (r : Reader) (s : State) : KeepsConfig s (answerAttach r s).after := by
  unfold answerAttach
  split
  · exact keepsConfig_modifyReader_reevaluateBusy s r _ fun _ => rfl
  · exact .refl s

theorem keepsConfig_answerDetach (r : Reader) (s : State) : KeepsConfig s (answerDetach r s).after := by
  unfold answerDetach
  split
  · exact .refl s
  · exact (keepsConfig_massRelease r _ s).trans ((keepsConfig_cascade _).trans (keepsConfig_reevaluateBusy _))

theorem keepsConfig_answerResume (r : Reader) (s : State) : KeepsConfig s (answerResume r s).after := by
  unfold answerResume
  split
  · exact keepsConfig_modifyReader_reevaluateBusy s r _ fun _ => rfl
  · exact .refl s

theorem keepsConfig_answerDeclareBusy (r : Reader) (value : Byte) (s : State) :
    KeepsConfig s (answerDeclareBusy r value s).after := by
  unfold answerDeclareBusy
  dsimp only
  split
  · split
    · exact .refl s
    · exact keepsConfig_modifyReader_reevaluateBusy s r _ fun _ => rfl
  · exact .refl s

theorem keepsConfig_freeTokenOf (r : Reader) (s : State) : KeepsConfig s (freeTokenOf r s) := by
  unfold freeTokenOf; split <;> exact keepsConfig_of_eq rfl rfl rfl

theorem keepsConfig_answerReaderReset (r : Reader) (s : State) : KeepsConfig s (answerReaderReset r s).after := by
  refine .trans ?_ ((keepsConfig_freeTokenOf r _).trans (keepsConfig_reevaluateBusy _))
  refine .trans ?_ (keepsConfig_modifyReader _ r _ fun _ => rfl)
  exact (keepsConfig_massRelease r .detached s).trans (keepsConfig_cascade _)

/-! ### The commands that act on the hub -/

theorem keepsConfig_answerClaim (r : Reader) (s : State) : KeepsConfig s (answerClaim r s).after := by
  unfold answerClaim
  split
  · exact keepsConfig_of_eq rfl rfl rfl
  split
  · exact .refl s
  split
  · exact .refl s
  · exact (keepsConfig_raise _ .tokenLost s).trans (keepsConfig_of_eq rfl rfl rfl)

theorem keepsConfig_answerYield (r : Reader) (s : State) : KeepsConfig s (answerYield r s).after := by
  unfold answerYield; split <;> exact keepsConfig_of_eq rfl rfl rfl

theorem keepsConfig_answerGet (id : Byte) (s : State) : KeepsConfig s (answerGet id s).after := by
  unfold answerGet; split <;> exact .refl s

theorem keepsConfig_answerRuleRead (index : Byte) (s : State) : KeepsConfig s (answerRuleRead index s).after := by
  unfold answerRuleRead; split <;> exact .refl s

theorem keepsConfig_answerEpoch (r : Reader) (s : State) : KeepsConfig s (answerEpoch r s).after := by
  unfold answerEpoch
  split
  · exact .refl s
  split
  · exact .refl s
  split
  · exact (keepsConfig_applyEpochReset s).trans (keepsConfig_reevaluateBusy _)
  · exact .refl s

theorem keepsConfig_emptyHub (s : State) : KeepsConfig s (emptyHub s) :=
  keepsConfig_of_rules rfl (fun r => by simp [emptyHub]) rfl

theorem keepsConfig_hubClear (s : State) : KeepsConfig s (hubClear s) := by
  have hreset : KeepsConfig (emptyHub s)
      (if (emptyHub s).numbering.epochPending then applyEpochReset (emptyHub s) else emptyHub s) := by
    split
    · exact keepsConfig_applyEpochReset _
    · exact .refl _
  exact (keepsConfig_emptyHub s).trans <| hreset.trans <| (keepsConfig_raiseFor _ _ _).trans <|
    (keepsConfig_reevaluateBusy _).trans (keepsConfig_retryHeldFrame _)

theorem keepsConfig_answerClear (r : Reader) (s : State) : KeepsConfig s (answerClear r s).after := by
  unfold answerClear
  split
  · exact keepsConfig_hubClear s
  · exact .refl s

theorem keepsConfig_answerReference (r : Reader) (value : Byte) (s : State) :
    KeepsConfig s (answerReference r value s).after := by
  unfold answerReference
  split
  · exact .refl s
  split
  · exact .refl s
  split
  · exact .refl s
  split
  · exact .refl s
  · exact keepsConfig_switchReference _ s

theorem keepsConfig_answerCounter (r : Reader) (index form : Byte) (s : State) :
    KeepsConfig s (answerCounter r index form s).after := by
  unfold answerCounter; (repeat' split) <;> exact .refl s

theorem keepsConfig_answerClearCounters (r : Reader) (s : State) : KeepsConfig s (answerClearCounters r s).after := by
  unfold answerClearCounters; split <;> exact keepsConfig_of_eq rfl rfl rfl

/-! ### A stored setting -/

/-- Countdowns that have run make no difference to what a store writes. -/
theorem KeepsConfig.storeSetting {s t : State} (h : KeepsConfig s t) (x : Setting) (v : Value16) :
    KeepsConfig (storeSetting x v s) (storeSetting x v t) := by
  refine ⟨?_, fun q => ?_, fun i => by simpa using h.rules i⟩
  · cases x with
    | shared y => cases y <;> simp [Machine.storeSetting, storeShared, h.shared]
    | ofReader r y => simpa [Machine.storeSetting] using h.shared
  · cases x with
    | shared y => simpa [Machine.storeSetting] using h.ofReader q
    | ofReader r y =>
      simp only [Machine.storeSetting, State.modifyReader_readers, PerReader.get_set]
      split
      · simp [h.ofReader r]
      · exact h.ofReader q

theorem keepsConfig_applySetting (x : Setting) (s : State) : KeepsConfig s (applySetting x s) := by
  unfold applySetting
  split
  case h_5 r => exact keepsConfig_modifyReader s r _ fun c => by unfold rejudgePulse; split <;> rfl
  case h_6 => exact .refl s
  all_goals exact keepsConfig_reevaluateBusy s

/-- An accepted SET stores its value, and what its owner does at once leaves every setting alone. -/
theorem keepsConfig_writeSetting (x : Setting) (v : Value16) (s : State) :
    KeepsConfig (storeSetting x v s) (writeSetting x v s) := by
  have hrestart : KeepsConfig s (if x = .shared .tickPrescale then restartDivider s else s) := by
    split
    · exact keepsConfig_restartDivider s
    · exact .refl s
  exact (hrestart.storeSetting x v).trans (keepsConfig_applySetting x _)

/-! ### Every step -/

/-- What a command can do to the settings and the rules. -/
inductive ConfigMove (s t : State) : Prop
  /-- They stay, but for countdowns. -/
  | counts (h : KeepsConfig s t)
  /-- A SET that is accepted (R162, R165). -/
  | stores (x : Setting) (v : Value16) (accepted : settingAccepts x v s = true) (h : KeepsConfig (storeSetting x v s) t)
  /-- A RULE_WRITE (R36). -/
  | writes (i : Fin 8) (enable pattern mask sets interval : Byte)
      (h : KeepsConfig (s.withRules (s.rules.set i (ruleOf enable pattern mask sets interval))) t)
  /-- A device reset (R27, R163, R164). -/
  | restarts (h : KeepsConfig (State.inReset s.pending (csLevels s)) t)

theorem ConfigMove.trans_keeps {s t u : State} (h : ConfigMove s t) (h' : KeepsConfig t u) : ConfigMove s u := by
  cases h with
  | counts h => exact .counts (h.trans h')
  | stores x v accepted h => exact .stores x v accepted (h.trans h')
  | writes i enable pattern mask sets interval h => exact .writes i enable pattern mask sets interval (h.trans h')
  | restarts h => exact .restarts (h.trans h')

theorem configMove_answerSet (r : Reader) (id : Byte) (v : Value16) (s : State) : ConfigMove s (answerSet r id v s).after := by
  unfold answerSet
  split
  · exact .counts (.refl s)
  split
  · exact .counts (.refl s)
  next x _ =>
  split
  next accepted => exact .stores x v accepted (keepsConfig_writeSetting x v s)
  next => exact .counts (.refl s)

theorem configMove_answerRuleWrite (r : Reader) (index enable pattern mask sets interval : Byte) (s : State) :
    ConfigMove s (answerRuleWrite r index enable pattern mask sets interval s).after := by
  unfold answerRuleWrite
  split
  · exact .counts (.refl s)
  split
  · exact .counts (.refl s)
  next i _ =>
  split
  · exact .writes i enable pattern mask sets interval (.refl _)
  · exact .counts (.refl s)

theorem configMove_whileRunning {f : State → State} (h : ∀ s, KeepsConfig s (f s)) (s : State) :
    ConfigMove s (whileRunning f s) := by
  unfold whileRunning
  split
  · exact .counts (.refl s)
  · exact .counts (h s)

/-- A reader command does to the settings and the rules what its answer does. -/
theorem configMove_command {act : State → Answer} (h : ∀ s, ConfigMove s (act s).after) (r : Reader) (code : Byte)
    (args : List Byte) (length : Nat) (s : State) : ConfigMove s (command r code args length act s) := by
  unfold command
  split
  · exact (h s).trans_keeps (keepsConfig_of_eq rfl rfl rfl)
  · exact .counts (.refl s)

theorem configMove_setCommand (r : Reader) (id : Byte) (v : Value16) (s : State) : ConfigMove s (setCommand r id v s) :=
  configMove_command (configMove_answerSet r id v) r _ _ _ s

/-- A command whose answer leaves settings and rules as they were written. -/
theorem configMove_answer {act : State → Answer} (h : ∀ s, KeepsConfig s (act s).after) (r : Reader) (code : Byte)
    (args : List Byte) (length : Nat) (s : State) : ConfigMove s (command r code args length act s) :=
  configMove_command (fun s => .counts (h s)) r code args length s

theorem keepsConfig_withPorts (s : State) (x : PerReader ReaderPort) : KeepsConfig s (s.withPorts x) :=
  keepsConfig_of_eq rfl rfl rfl

theorem keepsConfig_resetRelease (s : State) :
    KeepsConfig s (if s.rstLow then
      reevaluateBusy ((s.withRstLow false).withBusy
        { s.busy with output := true, minimumHold := .running Config.resetMinimumHold })
    else s) := by
  split
  · exact keepsConfig_of_eq (by simp) (by simp) (by simp)
  · exact .refl s

theorem exec_configMove (c : Instr) (s : State) : ∃ t, exec c s = .next t ∧ ConfigMove s t := by
  cases c with
  | deviceReset => exact ⟨_, rfl, .restarts (.refl _)⟩
  | resetRelease => exact ⟨_, rfl, .counts (keepsConfig_resetRelease s)⟩
  | tick => exact ⟨_, rfl, configMove_whileRunning keepsConfig_takeTick s⟩
  | holdExpiry r => exact ⟨_, rfl, configMove_whileRunning (keepsConfig_takeHoldExpiry r) s⟩
  | minimumHoldExpiry => exact ⟨_, rfl, configMove_whileRunning keepsConfig_takeMinimumHoldExpiry s⟩
  | stretchExpiry => exact ⟨_, rfl, configMove_whileRunning keepsConfig_takeStretchExpiry s⟩
  | refclkEdge => exact ⟨_, rfl, configMove_whileRunning keepsConfig_countRefclkEdge s⟩
  | refclkAbsent => exact ⟨_, rfl, configMove_whileRunning keepsConfig_loseRefclk s⟩
  | settleComplete => exact ⟨_, rfl, configMove_whileRunning keepsConfig_takeSettleComplete s⟩
  | startMark => exact ⟨_, rfl, configMove_whileRunning keepsConfig_takeStartMark s⟩
  | stopMark => exact ⟨_, rfl, configMove_whileRunning keepsConfig_takeStopMark s⟩
  | addressByte byte => exact ⟨_, rfl, configMove_whileRunning (keepsConfig_receiveByte byte) s⟩
  | headerByte byte => exact ⟨_, rfl, configMove_whileRunning (keepsConfig_receiveByte byte) s⟩
  | classByte byte => exact ⟨_, rfl, configMove_whileRunning (keepsConfig_receiveByte byte) s⟩
  | tagByte byte => exact ⟨_, rfl, configMove_whileRunning (keepsConfig_receiveByte byte) s⟩
  | triggerCheckByte byte => exact ⟨_, rfl, configMove_whileRunning (keepsConfig_receiveByte byte) s⟩
  | holdingEntry => exact ⟨_, rfl, configMove_whileRunning keepsConfig_retryHeldFrame s⟩
  | epochCheckByte byte => exact ⟨_, rfl, configMove_whileRunning (keepsConfig_receiveByte byte) s⟩
  | epochReset => exact ⟨_, rfl, configMove_whileRunning keepsConfig_takeEpochReset s⟩
  | statusReadByte acknowledged => exact ⟨_, rfl, configMove_whileRunning (keepsConfig_sendStatusByte acknowledged) s⟩
  | transactionOpen r => exact ⟨_, rfl, .counts (by split; exacts [.refl s, keepsConfig_withPorts s _])⟩
  | transactionEnd r => exact ⟨_, rfl, .counts (by split; exacts [keepsConfig_withPorts s _, .refl s])⟩
  | badCommand r code =>
    refine ⟨_, rfl, ?_⟩
    split
    · exact .counts (.refl s)
    · exact configMove_answer .refl r _ _ _ s
  | status r => exact ⟨_, rfl, configMove_answer .refl r _ _ _ s⟩
  | time r => exact ⟨_, rfl, configMove_answer .refl r _ _ _ s⟩
  | causes r => exact ⟨_, rfl, configMove_answer (keepsConfig_answerCauses r) r _ _ _ s⟩
  | take r => exact ⟨_, rfl, configMove_answer (keepsConfig_answerTake r) r _ _ _ s⟩
  | release r epoch number => exact ⟨_, rfl, configMove_answer (keepsConfig_answerRelease r _) r _ _ _ s⟩
  | releaseOldest r => exact ⟨_, rfl, configMove_answer (keepsConfig_answerReleaseOldest r) r _ _ _ s⟩
  | held r => exact ⟨_, rfl, configMove_answer .refl r _ _ _ s⟩
  | attach r => exact ⟨_, rfl, configMove_answer (keepsConfig_answerAttach r) r _ _ _ s⟩
  | detach r => exact ⟨_, rfl, configMove_answer (keepsConfig_answerDetach r) r _ _ _ s⟩
  | resume r => exact ⟨_, rfl, configMove_answer (keepsConfig_answerResume r) r _ _ _ s⟩
  | declareBusy r value => exact ⟨_, rfl, configMove_answer (keepsConfig_answerDeclareBusy r value) r _ _ _ s⟩
  | readerReset r => exact ⟨_, rfl, configMove_answer (keepsConfig_answerReaderReset r) r _ _ _ s⟩
  | claim r => exact ⟨_, rfl, configMove_answer (keepsConfig_answerClaim r) r _ _ _ s⟩
  | yield r => exact ⟨_, rfl, configMove_answer (keepsConfig_answerYield r) r _ _ _ s⟩
  | set r id value => exact ⟨_, rfl, configMove_setCommand r _ value s⟩
  | setBusyHigh r value => exact ⟨_, rfl, configMove_setCommand r _ value s⟩
  | setBusyLow r value => exact ⟨_, rfl, configMove_setCommand r _ value s⟩
  | setForceBusy r value => exact ⟨_, rfl, configMove_setCommand r _ value s⟩
  | setSettleBusy r value => exact ⟨_, rfl, configMove_setCommand r _ value s⟩
  | setTickPrescale r value => exact ⟨_, rfl, configMove_setCommand r _ value s⟩
  | setRunNumber r value => exact ⟨_, rfl, configMove_setCommand r _ value s⟩
  | setAttnMask r target value => exact ⟨_, rfl, configMove_setCommand r _ value s⟩
  | get r id => exact ⟨_, rfl, configMove_answer (keepsConfig_answerGet id) r _ _ _ s⟩
  | ruleWrite r index enable pattern mask sets interval =>
    exact ⟨_, rfl, configMove_command (configMove_answerRuleWrite r index enable pattern mask sets interval) r _ _ _ s⟩
  | ruleRead r index => exact ⟨_, rfl, configMove_answer (keepsConfig_answerRuleRead index) r _ _ _ s⟩
  | epoch r => exact ⟨_, rfl, configMove_answer (keepsConfig_answerEpoch r) r _ _ _ s⟩
  | clear r => exact ⟨_, rfl, configMove_answer (keepsConfig_answerClear r) r _ _ _ s⟩
  | reference r value => exact ⟨_, rfl, configMove_answer (keepsConfig_answerReference r value) r _ _ _ s⟩
  | counter r index form => exact ⟨_, rfl, configMove_answer (keepsConfig_answerCounter r index form) r _ _ _ s⟩
  | clearCounters r => exact ⟨_, rfl, configMove_answer (keepsConfig_answerClearCounters r) r _ _ _ s⟩

end Sys2Proof.Machine
end

section
/-! SUPPORT. The ranges of the settings and the rules, kept by whatever a step can do to them. -/

namespace Sys2Proof.Machine

/-! ### Rules (R27, R31, R36) -/

/-- A countdown that has run stays in 1 to its interval: a sample that is due reloads it (R31). -/
theorem advanceCountdown_legal {x : RoutingRule} (h : x.Legal) : (advanceCountdown x).Legal := by
  obtain ⟨hpos, hle, hmax⟩ := h
  by_cases hdue : x.countdown ≤ 1
  · simp [RoutingRule.Legal, advanceCountdown, sampleDue, hdue]; omega
  · simp [RoutingRule.Legal, advanceCountdown, sampleDue, hdue]; omega

/-- An interval byte stands for 1 to 256 (R36). -/
theorem countOf_bounds (byte : Byte) : 1 ≤ countOf byte ∧ countOf byte ≤ 256 := by
  unfold countOf
  split
  next => decide
  next h =>
    have hpos : byte.toNat ≠ 0 := fun h0 => h (BitVec.eq_of_toNat_eq h0)
    omega

theorem ruleOf_legal (enable pattern mask sets interval : Byte) : (ruleOf enable pattern mask sets interval).Legal :=
  have ⟨hpos, hmax⟩ := countOf_bounds interval
  ⟨hpos, le_rfl, hmax⟩

/-! ### Settings (R163, R164, R165) -/

theorem settingAccepts_iff (x : Setting) (v : Value16) (s : State) :
    settingAccepts x v s = true ↔
      (settingRange x).1 ≤ v.toNat ∧ v.toNat ≤ (settingRange x).2 ∧ marksStayOrdered x v s = true := by
  simp [settingAccepts, and_assoc]

/-- A value in the range of a shared setting, with the marks in order, leaves the shared settings in theirs. -/
theorem storeShared_legal {x : SharedSetting} {v : Value16} {s : State} (haccepts : settingAccepts (.shared x) v s = true)
    (h : s.settings.Legal) : (storeShared x v s).settings.Legal := by
  obtain ⟨hlow, hhigh, hmarks⟩ := (settingAccepts_iff _ v s).mp haccepts
  cases x <;> simp [storeShared, Settings.Legal, settingRange, marksStayOrdered] at hlow hhigh hmarks h ⊢ <;> omega

theorem storeReaderSetting_legal {r : Reader} {x : ReaderSetting} {v : Value16} {s : State} {c : ReaderSettings}
    (haccepts : settingAccepts (.ofReader r x) v s = true) (h : c.Legal) : (storeReaderSetting x v c).Legal := by
  obtain ⟨hlow, hhigh, -⟩ := (settingAccepts_iff _ v s).mp haccepts
  cases x <;> simp [storeReaderSetting, ReaderSettings.Legal, settingRange] at hlow hhigh h ⊢ <;> omega

/-! ### The invariant -/

theorem KeepsConfig.settingsLegal {s t : State} (hkeeps : KeepsConfig s t) (h : settingsLegal s) : settingsLegal t := by
  obtain ⟨hshared, hreader, hrules⟩ := h
  refine ⟨hkeeps.shared ▸ hshared, fun r => hkeeps.ofReader r ▸ hreader r, fun i => ?_⟩
  obtain ⟨k, hk⟩ := hkeeps.rules i
  rw [hk]
  exact Function.Iterate.rec RoutingRule.Legal (hrules i) (fun _ => advanceCountdown_legal) k

theorem settingsLegal_storeSetting {x : Setting} {v : Value16} {s : State} (haccepts : settingAccepts x v s = true)
    (h : settingsLegal s) : settingsLegal (storeSetting x v s) := by
  obtain ⟨hshared, hreader, hrules⟩ := h
  cases x with
  | shared y => exact ⟨storeShared_legal haccepts hshared, by simpa [storeSetting] using hreader, by simpa using hrules⟩
  | ofReader r y =>
    refine ⟨hshared, fun q => ?_, hrules⟩
    simp only [storeSetting, State.modifyReader_readers, PerReader.get_set]
    split
    · exact storeReaderSetting_legal haccepts (hreader r)
    · exact hreader q

theorem settingsLegal_withRule {s : State} (i : Fin 8) {x : RoutingRule} (hx : x.Legal) (h : settingsLegal s) :
    settingsLegal (s.withRules (s.rules.set i x)) := by
  obtain ⟨hshared, hreader, hrules⟩ := h
  refine ⟨hshared, hreader, fun j => ?_⟩
  rw [State.withRules_rules, RuleTable.get_set]
  split
  · exact hx
  · exact hrules j

/-- The reset values are the same while RST_N is low as at its rise. -/
theorem settingsLegal_inReset (pending : List Instr) (csLow : PerReader Bool) : settingsLegal (State.inReset pending csLow) :=
  settingsLegal_reset

theorem ConfigMove.settingsLegal {s t : State} (hmove : ConfigMove s t) (h : settingsLegal s) : settingsLegal t := by
  cases hmove with
  | counts hkeeps => exact hkeeps.settingsLegal h
  | stores x v accepted hkeeps => exact hkeeps.settingsLegal (settingsLegal_storeSetting accepted h)
  | writes i enable pattern mask sets interval hkeeps =>
    exact hkeeps.settingsLegal (settingsLegal_withRule i (ruleOf_legal enable pattern mask sets interval) h)
  | restarts hkeeps => exact hkeeps.settingsLegal (settingsLegal_inReset _ _)

/-- Settles O52: a byte time leaves settings and rules alone, and a command does one of four things to them, each of which keeps them
in their ranges. -/
theorem stepKeepsSettingsLegal : Obligations.StepKeepsSettingsLegal := by
  intro s t h hstep
  unfold step at hstep
  split at hstep
  next =>
    obtain rfl : byteTime s = t := by injection hstep
    exact (keepsConfig_withPorts s _).settingsLegal h
  next c rest _ =>
    obtain ⟨u, hu, hmove⟩ := exec_configMove c (s.withPending rest)
    obtain rfl : u = t := by rw [hu] at hstep; injection hstep
    exact hmove.settingsLegal h

end Sys2Proof.Machine
end

section
/-! SUPPORT. What a rule compares, which rule matches, and when its sample is due, with the commands that write and read a rule. -/

namespace Sys2Proof.Machine

/-! ### Compared bits (R29) -/

/-- Two words agree under a mask when they have the same value at every bit that the mask compares. -/
theorem xor_and_eq_zero_iff {w : Nat} (x pattern mask : BitVec w) :
    (x ^^^ pattern) &&& mask = 0 ↔ ∀ i, i < w → mask.getLsbD i = true → x.getLsbD i = pattern.getLsbD i := by
  refine ⟨fun h i _ hmask => ?_, fun h => BitVec.eq_of_getLsbD_eq fun i hi => ?_⟩
  · have hbit : ((x ^^^ pattern) &&& mask).getLsbD i = false := by rw [h]; simp
    simpa [hmask] using hbit
  · cases hmask : mask.getLsbD i with
    | false => simp [hmask]
    | true => simp [hmask, h i hi hmask]

theorem ruleMatches_iff (x : RoutingRule) (source : BitVec 3) (cls : BitVec 4) :
    ruleMatches x source cls = true ↔ x.enable = true ∧
      (∀ i, i < 3 → x.maskSource.getLsbD i = true → source.getLsbD i = x.patternSource.getLsbD i) ∧
      (∀ i, i < 4 → x.maskClass.getLsbD i = true → cls.getLsbD i = x.patternClass.getLsbD i) := by
  simp only [ruleMatches, Bool.and_eq_true, beq_iff_eq, xor_and_eq_zero_iff, and_assoc]

theorem ruleMatches_off {x : RoutingRule} (h : x.enable = false) (source : BitVec 3) (cls : BitVec 4) :
    ruleMatches x source cls = false := by simp [ruleMatches, h]

/-- With no bit compared a rule that is on matches every trigger. -/
theorem ruleMatches_of_empty_mask {x : RoutingRule} (hon : x.enable = true) (hsource : x.maskSource = 0)
    (hclass : x.maskClass = 0) (source : BitVec 3) (cls : BitVec 4) : ruleMatches x source cls = true := by
  simp [ruleMatches, hon, hsource, hclass]

/-- With every bit compared it matches one pair of source and class. -/
theorem ruleMatches_of_full_mask {x : RoutingRule} (hon : x.enable = true) (hsource : x.maskSource = 7)
    (hclass : x.maskClass = 15) (source : BitVec 3) (cls : BitVec 4) :
    ruleMatches x source cls = true ↔ source = x.patternSource ∧ cls = x.patternClass := by
  have hs : x.maskSource = BitVec.allOnes 3 := hsource
  have hc : x.maskClass = BitVec.allOnes 4 := hclass
  simp only [ruleMatches, hon, hs, hc, BitVec.and_allOnes, Bool.true_and, Bool.and_eq_true, beq_iff_eq]
  exact and_congr BitVec.xor_eq_zero_iff BitVec.xor_eq_zero_iff

/-! ### The bytes of a rule (R36, R38, R180) -/

theorem bit7_eq_false_iff (byte : Byte) : byte.getLsbD 7 = false ↔ byte.toNat < 128 := by
  have hmsb : byte.getLsbD 7 = decide (2 ^ 7 ≤ byte.toNat) := BitVec.msb_eq_decide byte
  rw [hmsb, decide_eq_false_iff_not]
  exact Nat.not_le

/-- The two halves of a byte make it up. -/
theorem halves_append (byte : Byte) : byte.extractLsb' 4 4 ++ byte.extractLsb' 0 4 = byte :=
  (BitVec.extractLsb'_append_extractLsb'_eq_extractLsb' rfl).trans BitVec.extractLsb'_eq_self

/-- A byte whose bit 7 is clear is read back as it was written. -/
theorem sourceClassByte_of_fields {byte : Byte} (h : byte.toNat < 128) :
    sourceClassByte (ruleSource byte) (ruleClass byte) = byte := by
  have hbit : 0#1 = byte.extractLsb' 7 1 := by
    refine BitVec.eq_of_getLsbD_eq fun i hi => ?_
    obtain rfl : i = 0 := by omega
    simpa using ((bit7_eq_false_iff byte).mpr h).symm
  have hhigh : 0#1 ++ byte.extractLsb' 4 3 = byte.extractLsb' 4 4 := by
    rw [hbit]
    exact BitVec.extractLsb'_append_extractLsb'_eq_extractLsb' rfl
  calc sourceClassByte (ruleSource byte) (ruleClass byte)
      = (0#1 ++ byte.extractLsb' 4 3) ++ byte.extractLsb' 0 4 := rfl
    _ = byte := by rw [hhigh, halves_append]

theorem sets_of_fields (byte : Byte) : (fullSetOf byte).toNibble ++ (sampledSetOf byte).toNibble = byte := by
  rw [fullSetOf, sampledSetOf, ReaderSet.toNibble_ofNibble, ReaderSet.toNibble_ofNibble, halves_append]

/-- An interval of 256 is sent as 0 (R182). -/
theorem ofNat_countOf (byte : Byte) : BitVec.ofNat 8 (countOf byte) = byte := by
  unfold countOf
  split
  next h => rw [h]; rfl
  next => simp

/-- The enable byte is 0 or 1. -/
theorem enable_of_byte {byte : Byte} (h : byte.toNat ≤ 1) : (if byte == 1 then 1 else 0 : Byte) = byte := by
  have hcases : byte = 0 ∨ byte = 1 := by
    rcases Nat.le_one_iff_eq_zero_or_eq_one.mp h with h | h
    · exact .inl (BitVec.eq_of_toNat_eq h)
    · exact .inr (BitVec.eq_of_toNat_eq h)
  rcases hcases with rfl | rfl <;> rfl

/-- A rule is read back byte for byte as it was written, its pattern bits under an ignored mask bit among them. -/
theorem ruleImage_ruleOf {enable pattern mask : Byte} (henable : enable.toNat ≤ 1) (hpattern : pattern.toNat < 128)
    (hmask : mask.toNat < 128) (sets interval : Byte) :
    ruleImage (ruleOf enable pattern mask sets interval) = [enable, pattern, mask, sets, interval, interval] := by
  have himage : ruleImage (ruleOf enable pattern mask sets interval) =
      [if enable == 1 then 1 else 0, sourceClassByte (ruleSource pattern) (ruleClass pattern),
       sourceClassByte (ruleSource mask) (ruleClass mask), (fullSetOf sets).toNibble ++ (sampledSetOf sets).toNibble,
       BitVec.ofNat 8 (countOf interval), BitVec.ofNat 8 (countOf interval)] := rfl
  rw [himage, enable_of_byte henable, sourceClassByte_of_fields hpattern, sourceClassByte_of_fields hmask, sets_of_fields,
    ofNat_countOf]

theorem ruleIndex_of_lt {index : Byte} {i : Fin 8} (h : index.toNat = i.val) : ruleIndex index = some i := by
  simp [ruleIndex, h]

theorem ruleIndex_of_gt {index : Byte} (h : 7 < index.toNat) : ruleIndex index = none := by
  simp [ruleIndex]; omega

theorem ruleBytesValid_iff (enable pattern mask : Byte) :
    ruleBytesValid enable pattern mask = true ↔ enable.toNat ≤ 1 ∧ pattern.toNat < 128 ∧ mask.toNat < 128 := by
  simp only [ruleBytesValid, Bool.and_eq_true, decide_eq_true_eq, Bool.not_eq_true', bit7_eq_false_iff, and_assoc]

theorem fullSetOf_eq (sets : Byte) :
    fullSetOf sets = ⟨sets.getLsbD 4, sets.getLsbD 5, sets.getLsbD 6, sets.getLsbD 7⟩ := by
  simp [fullSetOf, ReaderSet.ofNibble]

theorem sampledSetOf_eq (sets : Byte) :
    sampledSetOf sets = ⟨sets.getLsbD 0, sets.getLsbD 1, sets.getLsbD 2, sets.getLsbD 3⟩ := by
  simp [sampledSetOf, ReaderSet.ofNibble]

/-! ### RULE_READ and RULE_WRITE -/

theorem exec_ruleRead {r : Reader} {s : State} (htakes : takesCommand r s) (index : Byte) :
    exec (.ruleRead r index) s = .next (answered r 0x35 [index] (answerRuleRead index s).status
      (replyBytes 6 (answerRuleRead index s)) (answerRuleRead index s).after) := by
  have hexec : exec (.ruleRead r index) s = .next (command r 0x35 [index] 6 (answerRuleRead index) s) := rfl
  rw [hexec, command_answered (keeps_ruleRead index) htakes 0x35 [index] rfl]

theorem ruleRead_image {r : Reader} {s : State} (htakes : takesCommand r s) (i : Fin 8) :
    exec (.ruleRead r (BitVec.ofNat 8 i.val)) s =
      .next (answered r 0x35 [BitVec.ofNat 8 i.val] .ok (ruleImage (s.rules.get i)) s) := by
  have hindex : ruleIndex (BitVec.ofNat 8 i.val) = some i := ruleIndex_of_lt (by simp; omega)
  have hanswer : answerRuleRead (BitVec.ofNat 8 i.val) s = perform (ruleImage (s.rules.get i)) s := by
    simp [answerRuleRead, hindex]
  rw [exec_ruleRead htakes, hanswer]
  rfl

theorem ruleRead_badIndex {r : Reader} {s : State} (htakes : takesCommand r s) {index : Byte} (h : 7 < index.toNat) :
    exec (.ruleRead r index) s = .next (answered r 0x35 [index] .badIndex [0, 0, 0, 0, 0, 0] s) := by
  have hanswer : answerRuleRead index s = refuse .badIndex s := by simp [answerRuleRead, ruleIndex_of_gt h]
  rw [exec_ruleRead htakes, hanswer]
  rfl

/-- Settles O43: the comparison bit by bit of `ruleMatches_iff`, and the bytes of `ruleImage_ruleOf`. -/
theorem ruleMatchesComparedBits : Obligations.RuleMatchesComparedBits := by
  refine ⟨fun x source cls => ⟨ruleMatches_iff x source cls, ?_, ?_, ?_⟩, ?_⟩
  · exact fun hon hsource hclass => ruleMatches_of_empty_mask hon hsource hclass source cls
  · exact fun hon hsource hclass => ruleMatches_of_full_mask hon hsource hclass source cls
  · exact fun hoff => ruleMatches_off hoff source cls
  · intro r i enable pattern mask sets interval s htakes henable hpattern hmask hrule
    rw [ruleRead_image htakes, hrule, ruleImage_ruleOf henable hpattern hmask]

/-- Settles O45: the cases of the answer, in the order of R36. -/
theorem ruleWriteReplacesTheRule : Obligations.RuleWriteReplacesTheRule := by
  intro r index enable pattern mask sets interval s htakes args run valid count written
  have hrun : run = .next (answered r 0x34 args (answerRuleWrite r index enable pattern mask sets interval s).status
      (replyBytes 0 (answerRuleWrite r index enable pattern mask sets interval s))
      (answerRuleWrite r index enable pattern mask sets interval s).after) := by
    have hexec : run = .next (command r 0x34 args 0 (answerRuleWrite r index enable pattern mask sets interval) s) := rfl
    rw [hexec, command_answered (keeps_ruleWrite r _ _ _ _ _ _) htakes 0x34 args rfl]
  have hvalid : ruleBytesValid enable pattern mask = true ↔ valid := ruleBytesValid_iff enable pattern mask
  have hwritten : ruleOf enable pattern mask sets interval = written := by
    rw [ruleOf, fullSetOf_eq, sampledSetOf_eq]
    rfl
  rw [hrun]
  refine ⟨fun i htoken hindex hbytes => ?_, fun htoken => ?_, fun htoken hindex => ?_, fun htoken hindex hbytes => ?_⟩
  · have hanswer : answerRuleWrite r index enable pattern mask sets interval s =
        perform [] (s.withRules (s.rules.set i written)) := by
      simp [answerRuleWrite, holdsToken, htoken, ruleIndex_of_lt hindex, hvalid.mpr hbytes, hwritten]
    rw [hanswer]
    rfl
  · have hanswer : answerRuleWrite r index enable pattern mask sets interval s = refuse .notHolder s := by
      simp [answerRuleWrite, holdsToken, htoken]
    rw [hanswer]
    rfl
  · have hanswer : answerRuleWrite r index enable pattern mask sets interval s = refuse .badIndex s := by
      simp [answerRuleWrite, holdsToken, htoken, ruleIndex_of_gt hindex]
    rw [hanswer]
    rfl
  · have hi : ruleIndex index = some ⟨index.toNat, by omega⟩ := ruleIndex_of_lt rfl
    have hanswer : answerRuleWrite r index enable pattern mask sets interval s = refuse .badValue s := by
      simp [answerRuleWrite, holdsToken, htoken, hi, mt hvalid.mp hbytes]
    rw [hanswer]
    rfl

/-! ### The matching rule (R30) -/

theorem ruleIndices_getElem (n : Nat) (h : n < ruleIndices.length) : ruleIndices[n] = ⟨n, h⟩ := by
  have hrange : ruleIndices = List.finRange 8 := by decide
  simp [hrange]

/-- The indices are tried in their order, so what is found is the first. -/
theorem find_ruleIndices_iff (p : Fin 8 → Bool) (i : Fin 8) :
    ruleIndices.find? p = some i ↔ p i = true ∧ ∀ j, j < i → p j = false := by
  rw [List.find?_eq_some_iff_getElem]
  refine and_congr_right fun _ => ⟨?_, fun h => ⟨i.val, i.isLt, ruleIndices_getElem _ _, fun j hj => ?_⟩⟩
  · rintro ⟨n, hn, hi, h⟩ j hj
    have hjn : j.val < n := by rw [← hi, ruleIndices_getElem] at hj; exact hj
    have hj := h j.val hjn
    rw [ruleIndices_getElem] at hj
    simpa using hj
  · rw [ruleIndices_getElem]
    simpa using h ⟨j, _⟩ hj

theorem matchingRule_iff (t : RuleTable) (source : BitVec 3) (cls : BitVec 4) (i : Fin 8) :
    matchingRule t source cls = some i ↔
      ruleMatches (t.get i) source cls = true ∧ ∀ j, j < i → ruleMatches (t.get j) source cls = false :=
  find_ruleIndices_iff _ i

/-! ### The countdown (R31) -/

theorem dvd_succ_iff {n : Nat} (hn : 1 ≤ n) (k : Nat) : n ∣ k + 1 ↔ n - k % n ≤ 1 := by
  have hlt : k % n < n := Nat.mod_lt k hn
  have hsplit : k + 1 = n * (k / n) + (k % n + 1) := by rw [← add_assoc, Nat.div_add_mod]
  rw [hsplit, Nat.dvd_add_right (Nat.dvd_mul_right n _)]
  refine ⟨fun h => ?_, fun h => ?_⟩
  · have := Nat.le_of_dvd (Nat.succ_pos _) h
    omega
  · have hwhole : k % n + 1 = n := by omega
    rw [hwhole]

/-- A rule written with the interval `n` has, after `k` records, `n - k % n` records until the next sample. -/
theorem iterate_advanceCountdown {x : RoutingRule} {n : Nat} (hn : 1 ≤ n) (hinterval : x.interval = n)
    (hcountdown : x.countdown = n) (k : Nat) : advanceCountdown^[k] x = { x with countdown := n - k % n } := by
  induction k with
  | zero => simp [← hcountdown]
  | succ k ih =>
    rw [Function.iterate_succ_apply', ih]
    have hlt : k % n < n := Nat.mod_lt k hn
    by_cases hdue : n - k % n ≤ 1
    · have hnext : (k + 1) % n = 0 := Nat.mod_eq_zero_of_dvd ((dvd_succ_iff hn k).mpr hdue)
      simp [advanceCountdown, sampleDue, hdue, hinterval, hnext]
    · have hnext : (k + 1) % n = k % n + 1 := by
        rw [← Nat.mod_add_mod, Nat.mod_eq_of_lt (by omega)]
      simp [advanceCountdown, sampleDue, hdue, hnext]
      omega

/-- The due records since the rule was written are the n-th, the 2n-th and so on. -/
theorem sampleDue_iterate_iff {x : RoutingRule} {n : Nat} (hn : 1 ≤ n) (hinterval : x.interval = n)
    (hcountdown : x.countdown = n) (k : Nat) : sampleDue (advanceCountdown^[k] x) = true ↔ n ∣ k + 1 := by
  rw [iterate_advanceCountdown hn hinterval hcountdown, dvd_succ_iff hn]
  simp [sampleDue]

theorem sampleDue_iff (x : RoutingRule) : sampleDue x = true ↔ x.countdown - 1 = 0 := by
  simp [sampleDue, Nat.sub_eq_zero_iff_le]

theorem advanceCountdown_of_due {x : RoutingRule} (h : sampleDue x = true) :
    advanceCountdown x = { x with countdown := x.interval } := by simp [advanceCountdown, h]

theorem advanceCountdown_of_not_due {x : RoutingRule} (h : sampleDue x = false) :
    advanceCountdown x = { x with countdown := x.countdown - 1 } := by simp [advanceCountdown, h]

/-- With interval 1 every record is due, and the rule stays as it is. -/
theorem advanceCountdown_of_interval_one {x : RoutingRule} (hinterval : x.interval = 1) (hcountdown : x.countdown = 1) :
    advanceCountdown x = x := by
  rw [advanceCountdown_of_due ((sampleDue_iff x).mpr (by rw [hcountdown]))]
  exact congrArg (fun n => { x with countdown := n }) (hinterval.trans hcountdown.symm)

/-! ### The countdowns at an entry (R31) -/

theorem rulesAfterRouting_get_matching {s : State} {i : Fin 8}
    (h : matchingRule s.rules s.trigger.frame.source s.trigger.frame.cls = some i) :
    (rulesAfterRouting s).get i = advanceCountdown (s.rules.get i) := by
  simp [rulesAfterRouting, h, advanceCountdown, sampleDue]

theorem rulesAfterRouting_get_other {s : State} {j : Fin 8}
    (h : matchingRule s.rules s.trigger.frame.source s.trigger.frame.cls ≠ some j) :
    (rulesAfterRouting s).get j = s.rules.get j := by
  unfold rulesAfterRouting
  split
  next => rfl
  next i hi => exact RuleTable.get_set_other _ (fun hji => h (by rw [hji]; exact hi)) _

theorem sampledRecord_matching {s : State} {i : Fin 8}
    (h : matchingRule s.rules s.trigger.frame.source s.trigger.frame.cls = some i) :
    sampledRecord s = sampleDue (s.rules.get i) := by
  simp [sampledRecord, h, sampleDue]

theorem sampledRecord_unmatched {s : State} (h : matchingRule s.rules s.trigger.frame.source s.trigger.frame.cls = none) :
    sampledRecord s = false := by
  simp [sampledRecord, h]

/-- The record that an entry puts at the tail is the one that the frame makes. -/
theorem eq_enteredRecord {s : State} {y : EventRecord} (h : (reevaluateBusy (entryResult s)).table = s.table ++ [y]) :
    y = enteredRecord s := by
  rw [reevaluateBusy_table, entryResult] at h
  dsimp only at h
  split at h
  next => simp at h
  next => simpa using h.symm

/-- Settles O44: `matchingRule_iff`, the one entry of `entryMakesTheRecord`, and `sampleDue_iterate_iff`. -/
theorem samplingFollowsTheCountdown : Obligations.SamplingFollowsTheCountdown := by
  refine ⟨matchingRule_iff, fun c s hhigh hroom hentry => ?_, fun x n k hn hinterval hcountdown =>
    sampleDue_iterate_iff hn hinterval hcountdown k⟩
  have hexec : exec c s = .next (reevaluateBusy (entryResult s)) := by
    obtain ⟨hcheck, hholding, -⟩ := entryMakesTheRecord
    rcases hentry with ⟨⟨byte, rfl, hsum⟩, hstate, hkind, hfree⟩ | ⟨rfl, hstate⟩
    · exact hcheck byte s hhigh hstate hkind hsum hfree hroom
    · exact hholding s hhigh hstate hroom
  have hrules : (reevaluateBusy (entryResult s)).rules = rulesAfterRouting s := reevaluateBusy_rules _
  refine ⟨_, hexec, ?_, fun j hother => ?_, fun y hy hnone => ?_⟩
  · intro i hmatch _ x
    have hget : (reevaluateBusy (entryResult s)).rules.get i = advanceCountdown x := by
      rw [hrules, rulesAfterRouting_get_matching hmatch]
    refine ⟨hget, fun hzero => ?_, fun hleft => ?_, fun hinterval hcountdown => ?_, sampleDue_iff x, fun y hy => ?_⟩
    · rw [hget, advanceCountdown_of_due ((sampleDue_iff x).mpr hzero)]
    · have hnot : sampleDue x = false := by
        rw [Bool.eq_false_iff]
        exact fun hdue => hleft.ne' ((sampleDue_iff x).mp hdue)
      rw [hget, advanceCountdown_of_not_due hnot]
    · rw [hget, advanceCountdown_of_interval_one hinterval hcountdown]
    · rw [eq_enteredRecord hy]
      exact sampledRecord_matching hmatch
  · rw [hrules, rulesAfterRouting_get_other hother]
  · rw [eq_enteredRecord hy] at hnone ⊢
    exact sampledRecord_unmatched hnone

end Sys2Proof.Machine
end

section
/-! SUPPORT. What the reports of HELD, GET and RULE_READ send, and the values of every block at reset. -/

namespace Sys2Proof.Machine

/-! ### HELD, GET and RULE_READ (R38, R52, R167, R182) -/

theorem identityBytes_eq (x : Identity) :
    identityBytes x = [x.epoch, x.number.extractLsb' 16 8, x.number.extractLsb' 8 8, x.number.extractLsb' 0 8] := by
  have hepoch : bigEndian 1 x.epoch.toNat = [x.epoch] := by simp [bigEndian]
  rw [identityBytes, hepoch, bigEndian_three]
  rfl

/-- The four bytes of a HELD entry, zero beyond the last. -/
def heldEntry : Option Identity → List Byte
  | none => [0, 0, 0, 0]
  | some x => [x.epoch, x.number.extractLsb' 16 8, x.number.extractLsb' 8 8, x.number.extractLsb' 0 8]

/-- HELD spelled out: a hold list has at most four entries (R44). -/
theorem heldBytes_eq {l : List Identity} (h : l.length ≤ 4) :
    heldBytes l = BitVec.ofNat 8 l.length :: (heldEntry l[0]? ++ heldEntry l[1]? ++ heldEntry l[2]? ++ heldEntry l[3]?) := by
  match l, h with
  | [], _ => rfl
  | [a], _ => simp [heldBytes, identityBytes_eq, heldEntry]
  | [a, b], _ => simp [heldBytes, identityBytes_eq, heldEntry]
  | [a, b, c], _ => simp [heldBytes, identityBytes_eq, heldEntry]
  | [a, b, c, d], _ => simp [heldBytes, identityBytes_eq, heldEntry]
  | a :: b :: c :: d :: e :: l, h => simp at h; omega

theorem exec_held {r : Reader} {s : State} (htakes : takesCommand r s) :
    exec (.held r) s = .next (answered r 0x13 [] .ok (heldBytes (s.readers.get r).holdList) s) := by
  have hexec : exec (.held r) s =
    .next (command r 0x13 [] 17 (fun t => perform (heldBytes (t.readers.get r).holdList) t) s) := rfl
  rw [hexec, command_answered (keeps_report _) htakes 0x13 [] rfl]
  rfl

theorem exec_get {r : Reader} {s : State} (htakes : takesCommand r s) (id : Byte) :
    exec (.get r id) s = .next (answered r 0x33 [id] (answerGet id s).status (replyBytes 2 (answerGet id s))
      (answerGet id s).after) := by
  have hexec : exec (.get r id) s = .next (command r 0x33 [id] 2 (answerGet id) s) := rfl
  rw [hexec, command_answered (keeps_get id) htakes 0x33 [id] rfl]

theorem answerGet_known {id : Byte} {x : Setting} (h : settingOfId id = some x) (s : State) :
    answerGet id s = perform [(settingValue x s).extractLsb' 8 8, (settingValue x s).extractLsb' 0 8] s := by
  simp [answerGet, h, bigEndian_two]

theorem answerGet_unknown {id : Byte} (h : settingOfId id = none) (s : State) : answerGet id s = refuse .badIndex s := by
  simp [answerGet, h]

/-- Settles O30, report by report. -/
theorem heldGetAndRuleReadReport : Obligations.HeldGetAndRuleReadReport := by
  intro r s htakes
  refine ⟨?_, fun id x hknown => ?_, fun id hunknown => ?_, ruleRead_image htakes, fun index hgt => ?_⟩
  · intro l hlist hfits entry
    have hentry (i : Nat) : entry i = heldEntry l[i]? := by
      simp only [entry]
      cases l[i]? <;> rfl
    rw [exec_held htakes, hlist, heldBytes_eq hfits, hentry, hentry, hentry, hentry]
  · rw [exec_get htakes, answerGet_known hknown]
    rfl
  · rw [exec_get htakes, answerGet_unknown hunknown]
    rfl
  · exact ruleRead_badIndex htakes hgt

/-! ### The reset values (R27, R28, R42, R65, R79, R116, R117, R157, R163, R164, R175) -/

theorem counterValue_zero {i : Nat} (h : i < 16) : counterValue Counters.zero i = 0 := by
  interval_cases i <;> rfl

theorem resetValues_reset : resetValues State.reset :=
  ⟨rfl, reset_rules_get, reset_readers_get, ⟨rfl, rfl, rfl, rfl, rfl, rfl⟩, ⟨rfl, rfl, rfl, rfl, rfl, rfl⟩, rfl, rfl, rfl,
    fun r => by rw [reset_ports_get]; rfl, fun _ => counterValue_zero, rfl, rfl⟩

/-- Settles O3, block by block. -/
theorem resetStateHoldsTheResetValues : Obligations.ResetStateHoldsTheResetValues :=
  ⟨resetValues_reset, rfl, rfl, rfl⟩

end Sys2Proof.Machine
end

section
/-! SUPPORT. What a reader has taken of a table, and the readers' commands in the words of the statements. -/

namespace Sys2Proof.Machine

/-! ### The records that a reader has taken -/

/-- The identities of the records of a table that the reader has taken, in table order. -/
def takenIn (r : Reader) (l : List EventRecord) : List Identity := (l.filter fun x => x.taken.get r).map (·.identity)

theorem takenBy_eq_takenIn (r : Reader) (s : State) : takenBy r s = takenIn r s.table := rfl

theorem takenIn_cons_of_taken {r : Reader} {x : EventRecord} (h : x.taken.get r = true) (l : List EventRecord) :
    takenIn r (x :: l) = x.identity :: takenIn r l := by simp [takenIn, h]

theorem takenIn_cons_of_not_taken {r : Reader} {x : EventRecord} (h : x.taken.get r = false) (l : List EventRecord) :
    takenIn r (x :: l) = takenIn r l := by simp [takenIn, h]

theorem takenIn_append (r : Reader) (l m : List EventRecord) : takenIn r (l ++ m) = takenIn r l ++ takenIn r m := by
  simp [takenIn]

theorem takenIn_eq_nil {r : Reader} {l : List EventRecord} (h : ∀ x ∈ l, x.taken.get r = false) : takenIn r l = [] := by
  simpa [takenIn] using h

/-! ### Expiry under LAPSE (R56, R72) -/

/-- The reader's hold list released by force takes nothing from a record at the head that it has not taken. -/
theorem forceReleaseAll_cons_of_not_taken {r : Reader} {x : EventRecord} (h : x.taken.get r = false) (held : List Identity)
    (l : List EventRecord) :
    held.foldl (fun t id => forceReleaseIn r id t) (x :: l) = x :: held.foldl (fun t id => forceReleaseIn r id t) l := by
  induction held generalizing l with
  | nil => rfl
  | cons id held ih =>
    have hskip : forceReleaseIn r id (x :: l) = x :: forceReleaseIn r id l := by
      simp [forceReleaseIn, modifyFirst, heldAs, h]
    rw [List.foldl_cons, hskip, ih, List.foldl_cons]

/-- Released by force one after another, the entries of a hold list that agrees with the table are all the records taken. -/
theorem forceReleaseAll_takenIn (r : Reader) (l : List EventRecord) :
    (takenIn r l).foldl (fun t id => forceReleaseIn r id t) l =
      l.map fun x => if x.taken.get r then forceReleaseRecord r x else x := by
  induction l with
  | nil => rfl
  | cons x l ih =>
    cases htaken : x.taken.get r with
    | true =>
      have hfirst : forceReleaseIn r x.identity (x :: l) = forceReleaseRecord r x :: l := by
        simp [forceReleaseIn, modifyFirst, heldAs, htaken]
      have hgone : (forceReleaseRecord r x).taken.get r = false := by simp [forceReleaseRecord, releaseRecord]
      rw [takenIn_cons_of_taken htaken, List.foldl_cons, hfirst, forceReleaseAll_cons_of_not_taken hgone, ih]
      simp [htaken]
    | false =>
      rw [takenIn_cons_of_not_taken htaken, forceReleaseAll_cons_of_not_taken htaken, ih]
      simp [htaken]

/-- What a lapse leaves of a record: FORCED where the reader held it, and the reader done with it (R72). -/
def lapsedFrom (r : Reader) (x : EventRecord) : EventRecord :=
  if x.required.get r then { doneBy r x with forced := x.forced || x.taken.get r } else x

/-- A reader holds only records that require it (R14), so its mass release finds every record that it has let go by force. -/
theorem lapsedFrom_eq {r : Reader} {x : EventRecord} (h : x.Legal) :
    (let y := if x.taken.get r then forceReleaseRecord r x else x
     if y.required.get r then releaseRecord r y else y) = lapsedFrom r x := by
  cases htaken : x.taken.get r with
  | true =>
    have hrequired : x.required.get r = true := ((h r).1 htaken).1
    simp [lapsedFrom, hrequired, htaken, forceReleaseRecord, releaseRecord, doneBy]
  | false => simp [lapsedFrom, htaken, releaseRecord, doneBy]

theorem massReleaseIn_forceReleaseAll {r : Reader} {l : List EventRecord} (h : ∀ x ∈ l, x.Legal) :
    massReleaseIn r ((takenIn r l).foldl (fun t id => forceReleaseIn r id t) l) = l.map (lapsedFrom r) := by
  rw [forceReleaseAll_takenIn, massReleaseIn, List.map_map]
  exact List.map_congr_left fun x hx => lapsedFrom_eq (h x hx)

/-- The whole expiry under LAPSE, before the retirements that it makes possible (R72). -/
def lapseResult (r : Reader) (s : State) : State :=
  { s with
    table := s.table.map (lapsedFrom r)
    readers := s.readers.set r { s.readers.get r with
      state := .lapsed, holdList := [], holdTimer := .stopped, causes := (s.readers.get r).causes ||| 0x004 }
    counters := { s.counters with
      forcedReleases := s.counters.forcedReleases.set r
        (s.counters.forcedReleases.get r + BitVec.ofNat 40 (s.readers.get r).holdList.length) } }

theorem expireLapse_eq {r : Reader} {s : State} (hlegal : ∀ x ∈ s.table, x.Legal)
    (hheld : (s.readers.get r).holdList = takenBy r s) : expireLapse r s = reevaluateBusy (cascade (lapseResult r s)) := by
  have htable : massReleaseIn r ((s.readers.get r).holdList.foldl (fun t id => forceReleaseIn r id t) s.table) =
      s.table.map (lapsedFrom r) := by
    rw [hheld, takenBy_eq_takenIn, massReleaseIn_forceReleaseAll hlegal]
  have hreader : raise r .lapsed (massRelease r .lapsed (countForced r (s.readers.get r).holdList.length
      (s.withTable ((s.readers.get r).holdList.foldl (fun t id => forceReleaseIn r id t) s.table)))) = lapseResult r s := by
    simp [raise, massRelease, countForced, State.modifyReader, State.withReaders, State.withTable, State.withCounters,
      withdraw, htable, lapseResult, causeBit, causeNumber]
  unfold expireLapse
  dsimp only
  rw [hreader]

theorem takeHoldExpiry_not_due {r : Reader} {s : State} (h : (s.readers.get r).holdTimer ≠ .pulseDue) :
    takeHoldExpiry r s = s := if_neg h

/-- Settles O8: `expireLapse_eq`, where the hold list agrees with the table. -/
theorem holdExpiryUnderLapse : Obligations.HoldExpiryUnderLapse := by
  refine ⟨fun r s hhigh htable _ hreaders hdue hpolicy => ?_, fun r s hnot => ?_⟩
  · obtain ⟨-, hlegal, -⟩ := htable
    obtain ⟨hheld, -⟩ := hreaders r
    have hexpiry : takeHoldExpiry r s = expireLapse r s := by simp [takeHoldExpiry, hdue, hpolicy]
    show Host.Outcome.next (whileRunning (takeHoldExpiry r) s) = _
    rw [whileRunning_high _ hhigh, hexpiry, expireLapse_eq hlegal hheld]
    rfl
  · show Host.Outcome.next (whileRunning (takeHoldExpiry r) s) = _
    simp [whileRunning, takeHoldExpiry_not_due hnot]

/-! ### TAKE (R16, R46, R67) -/

theorem availableTo_iff (r : Reader) (x : EventRecord) :
    availableTo r x = true ↔ x.required.get r = true ∧ x.taken.get r = false ∧ x.released.get r = false := by
  simp [availableTo, and_assoc]

theorem addEntry_eq (id : Identity) (c : ReaderContext) :
    addEntry id c = { c with
      holdList := c.holdList ++ [id]
      holdTimer := if c.holdList = [] then loaded c.settings.holdLimit [id] else c.holdTimer } := by
  simp [addEntry, loaded, loadHoldTimer]

/-- The state after a TAKE of the record `x`, which stands between `before` and `after` (R46). -/
def takeResult (r : Reader) (before : List EventRecord) (x : EventRecord) (after : List EventRecord) (s : State) : State :=
  { s with
    table := before ++ takeRecord r x :: after
    readers := s.readers.set r (addEntry x.identity (s.readers.get r))
    counters := { s.counters with takes := s.counters.takes.set r (s.counters.takes.get r + 1) } }

theorem answerTake_badState {r : Reader} {s : State} (h : (s.readers.get r).state ≠ .attached) :
    answerTake r s = refuse .badState s := if_pos h

theorem answerTake_holdFull {r : Reader} {s : State} (h : (s.readers.get r).state = .attached)
    (hfull : (s.readers.get r).settings.holdDepth ≤ (s.readers.get r).holdList.length) :
    answerTake r s = refuse .holdFull s := by
  simp [answerTake, h, hfull]

theorem answerTake_empty {r : Reader} {s : State} (h : (s.readers.get r).state = .attached)
    (hroom : (s.readers.get r).holdList.length < (s.readers.get r).settings.holdDepth)
    (hnone : s.table.find? (availableTo r) = none) : answerTake r s = refuse .empty s := by
  simp [answerTake, h, Nat.not_le.mpr hroom, hnone]

theorem answerTake_taken {r : Reader} {s : State} {before after : List EventRecord} {x : EventRecord}
    (h : (s.readers.get r).state = .attached)
    (hroom : (s.readers.get r).holdList.length < (s.readers.get r).settings.holdDepth) (ht : s.table = before ++ x :: after)
    (hbefore : ∀ y ∈ before, availableTo r y = false) (hx : availableTo r x = true) :
    answerTake r s = perform (recordImage x) (takeResult r before x after s) := by
  have hfind : s.table.find? (availableTo r) = some x :=
    List.find?_eq_some_iff_append.mpr ⟨hx, before, after, ht, fun y hy => by simp [hbefore y hy]⟩
  have htable : modifyFirst (availableTo r) (takeRecord r) s.table = before ++ takeRecord r x :: after := by
    rw [ht, modifyFirst_split _ _ hbefore hx]
  unfold answerTake
  simp only [h, Nat.not_le.mpr hroom, hfind, htable]
  rfl

/-- Settles O32: the cases of the answer, in the order of R46. -/
theorem takeTakesTheOldestAvailable : Obligations.TakeTakesTheOldestAvailable := by
  intro r s htakes c available zeros
  have hrun : exec (.take r) s = .next (answered r 0x10 [] (answerTake r s).status (replyBytes 19 (answerTake r s))
      (answerTake r s).after) := by
    have hexec : exec (.take r) s = .next (command r 0x10 [] 19 (answerTake r) s) := rfl
    rw [hexec, command_answered (keeps_take r) htakes 0x10 [] rfl]
  have hnot (y : EventRecord) (hy : ¬ available y) : availableTo r y = false :=
    Bool.eq_false_iff.mpr fun h => hy ((availableTo_iff r y).mp h)
  rw [hrun]
  refine ⟨?_, fun hstate => ?_, fun hstate hfull => ?_, fun hstate hroom hnone => ?_⟩
  · intro before x after ht hbefore hx hstate hroom
    rw [answerTake_taken hstate hroom ht (fun y hy => hnot y (hbefore y hy)) ((availableTo_iff r x).mpr hx), takeResult,
      addEntry_eq]
    rfl
  · rw [answerTake_badState hstate]
    rfl
  · rw [answerTake_holdFull hstate hfull]
    rfl
  · have hfind : s.table.find? (availableTo r) = none :=
      List.find?_eq_none.mpr fun y hy => by simp [hnot y (hnone y hy)]
    rw [answerTake_empty hstate hroom hfind]
    rfl

/-! ### ATTACH, RESUME, DETACH and DECLARE_BUSY (R53, R54, R55, R59) -/

theorem exec_attach {r : Reader} {s : State} (htakes : takesCommand r s) :
    exec (.attach r) s = .next (answered r 0x20 [] (answerAttach r s).status (replyBytes 0 (answerAttach r s))
      (answerAttach r s).after) := by
  have hexec : exec (.attach r) s = .next (command r 0x20 [] 0 (answerAttach r) s) := rfl
  rw [hexec, command_answered (keeps_attach r) htakes 0x20 [] rfl]

theorem exec_resume {r : Reader} {s : State} (htakes : takesCommand r s) :
    exec (.resume r) s = .next (answered r 0x22 [] (answerResume r s).status (replyBytes 0 (answerResume r s))
      (answerResume r s).after) := by
  have hexec : exec (.resume r) s = .next (command r 0x22 [] 0 (answerResume r) s) := rfl
  rw [hexec, command_answered (keeps_resume r) htakes 0x22 [] rfl]

theorem exec_detach {r : Reader} {s : State} (htakes : takesCommand r s) :
    exec (.detach r) s = .next (answered r 0x21 [] (answerDetach r s).status (replyBytes 0 (answerDetach r s))
      (answerDetach r s).after) := by
  have hexec : exec (.detach r) s = .next (command r 0x21 [] 0 (answerDetach r) s) := rfl
  rw [hexec, command_answered (keeps_detach r) htakes 0x21 [] rfl]

theorem exec_declareBusy {r : Reader} {s : State} (htakes : takesCommand r s) (value : Byte) :
    exec (.declareBusy r value) s = .next (answered r 0x23 [value] (answerDeclareBusy r value s).status
      (replyBytes 0 (answerDeclareBusy r value s)) (answerDeclareBusy r value s).after) := by
  have hexec : exec (.declareBusy r value) s = .next (command r 0x23 [value] 0 (answerDeclareBusy r value) s) := rfl
  rw [hexec, command_answered (keeps_declareBusy r value) htakes 0x23 [value] rfl]

theorem answerAttach_detached {r : Reader} {s : State} (h : (s.readers.get r).state = .detached) :
    answerAttach r s = perform [] (reevaluateBusy (s.modifyReader r fun c => { c with state := .attached })) := if_pos h

theorem answerAttach_badState {r : Reader} {s : State} (h : (s.readers.get r).state ≠ .detached) :
    answerAttach r s = refuse .badState s := if_neg h

theorem answerResume_lapsed {r : Reader} {s : State} (h : (s.readers.get r).state = .lapsed) :
    answerResume r s =
      perform [] (reevaluateBusy (s.modifyReader r fun c => { c with state := .attached, missed := 0 })) := if_pos h

theorem answerResume_badState {r : Reader} {s : State} (h : (s.readers.get r).state ≠ .lapsed) :
    answerResume r s = refuse .badState s := if_neg h

theorem answerDetach_leaves {r : Reader} {s : State} (h : (s.readers.get r).state ≠ .detached) :
    answerDetach r s = perform [] (reevaluateBusy (cascade (massRelease r .detached s))) := if_neg h

theorem answerDetach_badState {r : Reader} {s : State} (h : (s.readers.get r).state = .detached) :
    answerDetach r s = refuse .badState s := if_pos h

/-- The mass release in the words of the statements (R19, R54). -/
theorem massRelease_eq (r : Reader) (x : ReaderState) (s : State) :
    massRelease r x s =
      { s with table := allDoneBy r s.table, readers := s.readers.set r (leftBy x (s.readers.get r)) } := rfl

/-- The bytes 0 and 1 declare busy off and on. -/
theorem declared_of_byte {value : Byte} {on : Bool} (h : value = if on then 1 else 0) :
    value.toNat ≤ 1 ∧ (value == 1) = on := by
  subst h
  cases on <;> decide

theorem answerDeclareBusy_changes {r : Reader} {s : State} {value : Byte} {on : Bool} (hvalue : value = if on then 1 else 0)
    (h : (s.readers.get r).declaredBusy ≠ on) :
    answerDeclareBusy r value s =
      perform [] (reevaluateBusy (s.modifyReader r fun c => { c with declaredBusy := on })) := by
  obtain ⟨hrange, hon⟩ := declared_of_byte hvalue
  simp only [answerDeclareBusy, hrange, hon, h, if_true, if_false]

theorem answerDeclareBusy_same {r : Reader} {s : State} {value : Byte} {on : Bool} (hvalue : value = if on then 1 else 0)
    (h : (s.readers.get r).declaredBusy = on) : answerDeclareBusy r value s = perform [] s := by
  obtain ⟨hrange, hon⟩ := declared_of_byte hvalue
  simp only [answerDeclareBusy, hrange, hon, h, if_true]

theorem answerDeclareBusy_badValue {value : Byte} (h : 1 < value.toNat) (r : Reader) (s : State) :
    answerDeclareBusy r value s = refuse .badValue s := if_neg (Nat.not_le.mpr h)

/-- Settles O36, answer by answer. -/
theorem attachDetachResumeDeclare : Obligations.AttachDetachResumeDeclare := by
  intro r s htakes c
  refine ⟨fun h => ?_, fun h => ?_, fun h => ?_, fun h => ?_, fun h => ?_, fun h => ?_, fun value on hvalue h => ?_,
    fun value on hvalue h => ?_, fun value h => ?_⟩
  · rw [exec_attach htakes, answerAttach_detached h]
    rfl
  · rw [exec_attach htakes, answerAttach_badState h]
    rfl
  · rw [exec_resume htakes, answerResume_lapsed h]
    rfl
  · rw [exec_resume htakes, answerResume_badState h]
    rfl
  · rw [exec_detach htakes, answerDetach_leaves h, massRelease_eq]
    rfl
  · rw [exec_detach htakes, answerDetach_badState h]
    rfl
  · rw [exec_declareBusy htakes, answerDeclareBusy_changes hvalue h]
    rfl
  · rw [exec_declareBusy htakes, answerDeclareBusy_same hvalue h]
    rfl
  · rw [exec_declareBusy htakes, answerDeclareBusy_badValue h]
    rfl

/-! ### READER_RESET (R58) -/

theorem freeTokenOf_eq (r : Reader) (s : State) :
    freeTokenOf r s = s.withToken (if s.token = some r then none else s.token) := by
  unfold freeTokenOf holdsToken
  by_cases h : s.token = some r
  · simp [h]
  · simp [h, State.withToken]

/-- Settles O37: the retirements have no part in the token, so it is freed of the reader that held it before. -/
theorem readerResetClearsTheContext : Obligations.ReaderResetClearsTheContext := by
  intro r s htakes u
  have hexec : exec (.readerReset r) s = .next (command r 0x24 [] 0 (answerReaderReset r) s) := rfl
  have hanswer : answerReaderReset r s = perform [] (reevaluateBusy { u with
      readers := u.readers.set r { u.readers.get r with causes := 0, declaredBusy := false, missed := 0 }
      token := if s.token = some r then none else s.token }) := by
    unfold answerReaderReset
    dsimp only
    rw [massRelease_eq, freeTokenOf_eq, State.modifyReader_token, cascade_token]
    rfl
  rw [hexec, command_answered (keeps_readerReset r) htakes 0x24 [] rfl, hanswer]
  rfl

/-! ### The device reset and its release (R62, R106, R141) -/

@[simp] theorem inReset_ports_get (pending : List Instr) (csLow : PerReader Bool) (r : Reader) :
    (State.inReset pending csLow).ports.get r = .idleAt (csLow.get r) := by
  cases r <;> rfl

/-- But for the ports, whose CS_N lines the readers drive, every block stands as right after reset. -/
theorem resetValues_inReset (pending : List Instr) (csLow : PerReader Bool) : resetValues (State.inReset pending csLow) := by
  obtain ⟨htable, hrules, hreaders, htrigger, htimebase, hnumbering, hsettings, htoken, -, hcounters, hfill, houtput⟩ :=
    resetValues_reset
  exact ⟨htable, hrules, hreaders, htrigger, htimebase, hnumbering, hsettings, htoken, fun r => by rw [inReset_ports_get]; rfl,
    hcounters, hfill, houtput⟩

/-- BUSY asserted while a source is active stays as it is; only FILL is judged anew (R131, R132). -/
theorem reevaluateBusy_of_asserted {s : State} (houtput : s.busy.output = true) (hsource : sourcesAtReevaluation s = true) :
    reevaluateBusy s = s.withBusy { s.busy with fillActive := fillHysteresis s } := by
  have hany : anySource (s.withBusy { s.busy with fillActive := fillHysteresis s }) = true := hsource
  rw [reevaluateBusy, driveBusy, if_pos hany]
  exact if_pos houtput

/-- The settle of the reset keeps BUSY asserted at the rise of RST_N (R106, R141). -/
theorem resetRelease_inReset (pending : List Instr) (csLow : PerReader Bool) :
    exec .resetRelease (State.inReset pending csLow) = .next { State.inReset pending csLow with
      rstLow := false, busy := { fillActive := false, output := true, minimumHold := .running 4 } } := by
  have hfill : fillHysteresis (((State.inReset pending csLow).withRstLow false).withBusy
      { fillActive := false, output := true, minimumHold := .running 4 }) = false := by
    simp [fillHysteresis, fill, State.inReset, Settings.atReset]
  have hsource : sourcesAtReevaluation (((State.inReset pending csLow).withRstLow false).withBusy
      { fillActive := false, output := true, minimumHold := .running 4 }) = true := by
    simp [sourcesAtReevaluation, settlingSource, State.inReset, Timebase.atReset, Settings.atReset]
  have hrise := reevaluateBusy_of_asserted rfl hsource
  rw [hfill] at hrise
  exact congrArg Host.Outcome.next hrise

/-- Settles O4: a device reset asks nothing of the state, so its release finds the one state of `resetRelease_inReset`. -/
theorem deviceResetAndItsRelease : Obligations.DeviceResetAndItsRelease := by
  refine ⟨fun s => ⟨State.inReset s.pending (csLevels s), rfl, rfl, resetValues_inReset _ _, rfl, fun r => ?_,
    resetRelease_inReset _ _⟩, fun s hhigh => ?_⟩
  · simp [csLevels, ReaderPort.idleAt]
  · have hexec : exec .resetRelease s = .next (if s.rstLow then
        reevaluateBusy ((s.withRstLow false).withBusy
          { s.busy with output := true, minimumHold := .running Config.resetMinimumHold })
      else s) := rfl
    rw [hexec, hhigh]
    rfl

end Sys2Proof.Machine
end

section
/-! SUPPORT. The hold lists agree with the table after every event (R44, R45): first what the operations on records and contexts do to
the agreement, then event by event. -/

namespace Sys2Proof.Machine

/-! ### Records as one reader sees them -/

/-- To the reader `q` the records look alike. -/
structure SameFor (q : Reader) (x y : EventRecord) : Prop where
  identity : y.identity = x.identity
  required : y.required.get q = x.required.get q
  taken    : y.taken.get q = x.taken.get q
  released : y.released.get q = x.released.get q

/-- For the reader `q` the record `y` is `x`, or `x` when it has let go of it: neither taken nor available where `x` was not, and
released where `x` was. -/
structure Yields (q : Reader) (x y : EventRecord) : Prop where
  taken     : y.taken.get q = true → x.taken.get q = true
  available : availableTo q y = true → availableTo q x = true
  done      : (x.required.get q = true → x.released.get q = true) → y.required.get q = true → y.released.get q = true

/-- `y` is the record `x` with the reader done, FORCED or not (R17, R18, R19). -/
structure DoneWith (r : Reader) (x y : EventRecord) : Prop where
  identity : y.identity = x.identity
  required : y.required = x.required
  taken    : y.taken = x.taken.set r false
  released : y.released = x.released.set r true

theorem SameFor.refl (q : Reader) (x : EventRecord) : SameFor q x x := ⟨rfl, rfl, rfl, rfl⟩

theorem Yields.refl (q : Reader) (x : EventRecord) : Yields q x x := ⟨id, id, id⟩

theorem SameFor.available {q : Reader} {x y : EventRecord} (h : SameFor q x y) : availableTo q y = availableTo q x := by
  simp [availableTo, h.required, h.taken, h.released]

theorem SameFor.yields {q : Reader} {x y : EventRecord} (h : SameFor q x y) : Yields q x y := by
  refine ⟨fun hy => h.taken ▸ hy, fun hy => h.available ▸ hy, fun hx hy => ?_⟩
  rw [h.released]
  exact hx (h.required ▸ hy)

theorem DoneWith.sameFor {r q : Reader} {x y : EventRecord} (h : DoneWith r x y) (hq : q ≠ r) : SameFor q x y :=
  ⟨h.identity, by rw [h.required], by rw [h.taken, PerReader.get_set_other _ hq],
    by rw [h.released, PerReader.get_set_other _ hq]⟩

theorem DoneWith.not_taken {r : Reader} {x y : EventRecord} (h : DoneWith r x y) : y.taken.get r = false := by
  simp [h.taken]

theorem DoneWith.is_released {r : Reader} {x y : EventRecord} (h : DoneWith r x y) : y.released.get r = true := by
  simp [h.released]

theorem DoneWith.yields {r : Reader} {x y : EventRecord} (h : DoneWith r x y) : Yields r x y :=
  ⟨by simp [h.not_taken], by simp [availableTo, h.is_released], fun _ _ => h.is_released⟩

theorem DoneWith.legal {r : Reader} {x y : EventRecord} (h : DoneWith r x y) (hrequired : x.required.get r = true)
    (hx : x.Legal) : y.Legal := by
  intro q
  by_cases hq : q = r
  · subst hq; simp [h.not_taken, h.required, hrequired]
  · have hsame := h.sameFor hq
    rw [hsame.taken, hsame.required, hsame.released]
    exact hx q

theorem doneWith_releaseRecord (r : Reader) (x : EventRecord) : DoneWith r x (releaseRecord r x) := ⟨rfl, rfl, rfl, rfl⟩

theorem doneWith_forceReleaseRecord (r : Reader) (x : EventRecord) : DoneWith r x (forceReleaseRecord r x) :=
  ⟨rfl, rfl, rfl, rfl⟩

theorem sameFor_takeRecord {r q : Reader} (hq : q ≠ r) (x : EventRecord) : SameFor q x (takeRecord r x) :=
  ⟨rfl, rfl, by simp [takeRecord, hq], rfl⟩

/-- A reader holds only records that name it (R14). -/
theorem required_of_taken {r : Reader} {x : EventRecord} (hx : x.Legal) (h : x.taken.get r = true) :
    x.required.get r = true := by
  obtain ⟨hrequired, -⟩ := (hx r).1 h
  exact hrequired

/-- A complete record is held by nobody (R14, R21). -/
theorem not_taken_of_complete {x : EventRecord} (hx : x.Legal) (h : complete x = true) (r : Reader) :
    x.taken.get r = false := by
  rw [Bool.eq_false_iff]
  intro htaken
  obtain ⟨hrequired, hreleased⟩ := (hx r).1 htaken
  rw [(complete_iff x).mp h, hrequired] at hreleased
  exact absurd hreleased (by simp)

/-! ### Tables as one reader sees them -/

theorem forall_of_forall₂ {R : EventRecord → EventRecord → Prop} {P Q : EventRecord → Prop} {l m : List EventRecord}
    (h : List.Forall₂ R l m) (hPQ : ∀ x y, R x y → P x → Q y) (hl : ∀ x ∈ l, P x) : ∀ y ∈ m, Q y := by
  induction h with
  | nil => simp
  | cons hxy _ ih =>
    simp only [List.forall_mem_cons] at hl ⊢
    exact ⟨hPQ _ _ hxy hl.1, ih hl.2⟩

theorem takenIn_of_sameFor {q : Reader} {l m : List EventRecord} (h : List.Forall₂ (SameFor q) l m) :
    takenIn q m = takenIn q l := by
  induction h with
  | nil => rfl
  | @cons x y l m hxy _ ih =>
    cases htaken : x.taken.get q with
    | true => rw [takenIn_cons_of_taken htaken, takenIn_cons_of_taken (hxy.taken.trans htaken), ih, hxy.identity]
    | false => rw [takenIn_cons_of_not_taken htaken, takenIn_cons_of_not_taken (hxy.taken.trans htaken), ih]

theorem takenIn_length_of_yields {q : Reader} {l m : List EventRecord} (h : List.Forall₂ (Yields q) l m) :
    (takenIn q m).length ≤ (takenIn q l).length := by
  induction h with
  | nil => simp
  | @cons x y l m hxy _ ih =>
    cases hy : y.taken.get q with
    | true => simpa [takenIn_cons_of_taken hy, takenIn_cons_of_taken (hxy.taken hy)] using ih
    | false =>
      rw [takenIn_cons_of_not_taken hy]
      refine ih.trans ?_
      cases hx : x.taken.get q with
      | true => simp [takenIn_cons_of_taken hx]
      | false => rw [takenIn_cons_of_not_taken hx]

/-- No record that the reader holds stands behind one still available to it (R16). -/
def takenInOrder (q : Reader) (l : List EventRecord) : Prop :=
  l.Pairwise fun x y => availableTo q x = true → y.taken.get q = false

theorem takenInOrder_of_yields {q : Reader} {l m : List EventRecord} (h : List.Forall₂ (Yields q) l m)
    (hl : takenInOrder q l) : takenInOrder q m := by
  induction h with
  | nil => exact .nil
  | @cons x y l m hxy hrest ih =>
    obtain ⟨hx, hl⟩ := List.pairwise_cons.mp hl
    refine List.pairwise_cons.mpr ⟨?_, ih hl⟩
    intro z hz hy
    have hfree : ∀ x ∈ l, x.taken.get q = false := fun x' hx' => hx x' hx' (hxy.available hy)
    have hstays (x z : EventRecord) (hxz : Yields q x z) (h : x.taken.get q = false) : z.taken.get q = false :=
      Bool.eq_false_iff.mpr fun htaken => by simp [hxz.taken htaken] at h
    exact forall_of_forall₂ hrest hstays hfree z hz

theorem takenIn_modifyFirst_heldAs {r : Reader} {f : EventRecord → EventRecord} (hf : ∀ x, DoneWith r x (f x))
    (id : Identity) (l : List EventRecord) : takenIn r (modifyFirst (heldAs r id) f l) = (takenIn r l).erase id := by
  induction l with
  | nil => rfl
  | cons x l ih =>
    cases htaken : x.taken.get r with
    | true =>
      rw [takenIn_cons_of_taken htaken]
      by_cases hid : x.identity = id
      · simp [modifyFirst, heldAs, htaken, hid, takenIn_cons_of_not_taken (hf x).not_taken]
      · simp [modifyFirst, heldAs, hid, takenIn_cons_of_taken htaken, ih, List.erase_cons_tail]
    | false => simp [modifyFirst, heldAs, htaken, takenIn_cons_of_not_taken htaken, ih]

/-! ### The agreement of one reader -/

theorem readerMatchesTable_iff (q : Reader) (s : State) :
    readerMatchesTable q s ↔ (s.readers.get q).holdList = takenIn q s.table ∧ (s.readers.get q).holdList.length ≤ 4 ∧
      takenInOrder q s.table ∧ (isAttached q s = false → ∀ x ∈ s.table, x.required.get q = true → x.released.get q = true) :=
  Iff.rfl

theorem readerMatchesTable_of_yields {q : Reader} {s t : State} (records : List.Forall₂ (Yields q) s.table t.table)
    (held : (t.readers.get q).holdList = takenIn q t.table) (attached : isAttached q t = false → isAttached q s = false)
    (h : readerMatchesTable q s) : readerMatchesTable q t := by
  obtain ⟨hheld, hfits, horder, hdone⟩ := (readerMatchesTable_iff q s).mp h
  refine (readerMatchesTable_iff q t).mpr ⟨held, ?_, takenInOrder_of_yields records horder, fun ht => ?_⟩
  · rw [held]
    exact (takenIn_length_of_yields records).trans (hheld ▸ hfits)
  · exact forall_of_forall₂ records (fun _ _ hxy hx => hxy.done hx) (hdone (attached ht))

theorem readerMatchesTable_of_sameFor {q : Reader} {s t : State} (records : List.Forall₂ (SameFor q) s.table t.table)
    (held : (t.readers.get q).holdList = (s.readers.get q).holdList)
    (attached : isAttached q t = false → isAttached q s = false) (h : readerMatchesTable q s) : readerMatchesTable q t := by
  refine readerMatchesTable_of_yields (records.imp fun _ _ => SameFor.yields) ?_ attached h
  obtain ⟨hheld, -⟩ := h
  rw [held, takenIn_of_sameFor records, hheld, takenBy_eq_takenIn]

/-- A reader that has let go of every record agrees with the table in any state of its own. -/
theorem readerMatchesTable_of_done {q : Reader} {s : State} (held : (s.readers.get q).holdList = [])
    (none : ∀ x ∈ s.table, x.taken.get q = false)
    (done : ∀ x ∈ s.table, x.required.get q = true → x.released.get q = true) : readerMatchesTable q s :=
  (readerMatchesTable_iff q s).mpr ⟨by rw [held, takenIn_eq_nil none], by simp [held],
    List.pairwise_of_forall_mem_list fun _ _ y hy _ => none y hy, fun _ => done⟩

/-! ### The agreement of the hub -/

/-- The table's records are legal and every hold list agrees with them. -/
structure HoldsAgree (s : State) : Prop where
  legal   : ∀ x ∈ s.table, x.Legal
  readers : readersMatchTable s

/-- Table and hold lists stay, and no reader leaves ATTACHED. -/
structure SameHolds (s t : State) : Prop where
  table    : t.table = s.table
  held     : ∀ q, (t.readers.get q).holdList = (s.readers.get q).holdList
  attached : ∀ q, isAttached q t = false → isAttached q s = false

theorem SameHolds.refl (s : State) : SameHolds s s := ⟨rfl, fun _ => rfl, fun _ => id⟩

theorem SameHolds.trans {s t u : State} (h : SameHolds s t) (h' : SameHolds t u) : SameHolds s u :=
  ⟨h'.table.trans h.table, fun q => (h'.held q).trans (h.held q), fun q => h.attached q ∘ h'.attached q⟩

/-- Every reader keeps its hold list and its state. -/
theorem sameHolds_of_contexts {s t : State} (ht : t.table = s.table)
    (hc : ∀ q, (t.readers.get q).holdList = (s.readers.get q).holdList ∧ (t.readers.get q).state = (s.readers.get q).state) :
    SameHolds s t := by
  refine ⟨ht, fun q => (hc q).1, fun q ha => ?_⟩
  obtain ⟨-, hstate⟩ := hc q
  rwa [isAttached, hstate] at ha

theorem sameHolds_of_sameContexts {s t : State} (ht : t.table = s.table) (h : SameContexts s t) : SameHolds s t :=
  sameHolds_of_contexts ht fun q => by rw [h q]; exact ⟨rfl, rfl⟩

/-- Events that leave table and contexts alone. -/
theorem sameHolds_of_eq {s t : State} (ht : t.table = s.table) (hc : t.readers = s.readers) : SameHolds s t :=
  sameHolds_of_sameContexts ht ((SameContexts.refl s).of_readers hc)

theorem sameHolds_withTimebase (s : State) (x : Timebase) : SameHolds s (s.withTimebase x) := sameHolds_of_eq rfl rfl

theorem sameHolds_withTrigger (s : State) (x : TriggerPort) : SameHolds s (s.withTrigger x) := sameHolds_of_eq rfl rfl

theorem sameHolds_withCounters (s : State) (x : Counters) : SameHolds s (s.withCounters x) := sameHolds_of_eq rfl rfl

theorem sameHolds_withToken (s : State) (x : Option Reader) : SameHolds s (s.withToken x) := sameHolds_of_eq rfl rfl

theorem sameHolds_withPorts (s : State) (x : PerReader ReaderPort) : SameHolds s (s.withPorts x) := sameHolds_of_eq rfl rfl

theorem sameHolds_withPending (s : State) (x : List Instr) : SameHolds s (s.withPending x) := sameHolds_of_eq rfl rfl

/-- A reader's context changes, but for its hold list, and it leaves ATTACHED at most to come back to it. -/
theorem sameHolds_modifyReader (s : State) (r : Reader) {f : ReaderContext → ReaderContext}
    (hf : ∀ c, (f c).holdList = c.holdList ∧ ((f c).state = c.state ∨ (f c).state = .attached)) :
    SameHolds s (s.modifyReader r f) := by
  refine ⟨rfl, fun q => ?_, fun q ha => ?_⟩
  · by_cases hq : q = r
    · subst hq; simp [hf]
    · simp [hq]
  · by_cases hq : q = r
    · subst hq
      obtain ⟨-, hstate | hstate⟩ := hf (s.readers.get q)
      · simpa [isAttached, hstate] using ha
      · simp [isAttached, hstate] at ha
    · simpa [isAttached, hq] using ha

theorem sameHolds_raise (r : Reader) (c : Cause) (s : State) : SameHolds s (raise r c s) :=
  sameHolds_modifyReader s r fun _ => ⟨rfl, .inl rfl⟩

theorem sameHolds_raiseFor (who : ReaderSet) (c : Cause) (s : State) : SameHolds s (raiseFor who c s) :=
  sameHolds_of_sameContexts rfl (sameContexts_raiseFor who c s)

theorem sameHolds_applyEpochReset (s : State) : SameHolds s (applyEpochReset s) :=
  sameHolds_of_sameContexts rfl (sameContexts_applyEpochReset s)

theorem sameHolds_reevaluateBusy (s : State) : SameHolds s (reevaluateBusy s) := sameHolds_of_eq (by simp) (by simp)

theorem HoldsAgree.of_sameHolds {s t : State} (h : HoldsAgree s) (hsame : SameHolds s t) : HoldsAgree t := by
  refine ⟨hsame.table ▸ h.legal, fun q => readerMatchesTable_of_sameFor ?_ (hsame.held q) (hsame.attached q) (h.readers q)⟩
  rw [hsame.table]
  exact List.forall₂_same.mpr fun x _ => .refl q x

/-- With no record and no hold list there is nothing to disagree. -/
theorem holdsAgree_emptied {s : State} (ht : s.table = []) (hc : ∀ q, (s.readers.get q).holdList = []) : HoldsAgree s :=
  ⟨by simp [ht], fun q => readerMatchesTable_of_done (hc q) (by simp [ht]) (by simp [ht])⟩

/-- The reader takes the oldest record available to it, at the tail of its hold list (R16, R46). -/
theorem holdsAgree_takeResult {r : Reader} {s : State} {before after : List EventRecord} {x : EventRecord}
    (hstate : (s.readers.get r).state = .attached) (hroom : (s.readers.get r).holdList.length < 4)
    (ht : s.table = before ++ x :: after) (hbefore : ∀ y ∈ before, availableTo r y = false) (hx : availableTo r x = true)
    (h : HoldsAgree s) : HoldsAgree (takeResult r before x after s) := by
  have hlegal : ∀ y ∈ (takeResult r before x after s).table, y.Legal := by
    have hs := h.legal
    simp only [ht, List.forall_mem_append, List.forall_mem_cons] at hs
    obtain ⟨hb, hxlegal, ha⟩ := hs
    simpa [takeResult, or_imp, forall_and] using ⟨hb, takeRecord_legal hx hxlegal, ha⟩
  refine ⟨hlegal, fun q => ?_⟩
  by_cases hq : q = r
  · subst hq
    obtain ⟨hheld, -, horder, -⟩ := (readerMatchesTable_iff q s).mp (h.readers q)
    have htaken : (takeRecord q x).taken.get q = true := by simp [takeRecord]
    have hnot : availableTo q (takeRecord q x) = false := by simp [availableTo, htaken]
    obtain ⟨-, hx0, -⟩ := (availableTo_iff q x).mp hx
    rw [ht, takenInOrder, List.pairwise_append, List.pairwise_cons] at horder
    obtain ⟨horderBefore, ⟨hbehind, horderAfter⟩, -⟩ := horder
    have hnone : takenIn q after = [] := takenIn_eq_nil fun y hy => hbehind y hy hx
    refine (readerMatchesTable_iff q _).mpr ⟨?_, ?_, ?_, ?_⟩
    · simp [takeResult, addEntry, hheld, ht, takenIn_append, takenIn_cons_of_taken htaken, takenIn_cons_of_not_taken hx0,
        hnone]
    · simpa [takeResult, addEntry] using hroom
    · refine List.pairwise_append.mpr ⟨horderBefore, List.pairwise_cons.mpr ⟨by simp [hnot], horderAfter⟩, ?_⟩
      intro y hy z _ hy'
      simp [hbefore y hy] at hy'
    · intro hdetached
      simp [isAttached, takeResult, addEntry, hstate] at hdetached
  · refine readerMatchesTable_of_sameFor ?_ ?_ ?_ (h.readers q)
    · rw [ht]
      refine List.rel_append ?_ (.cons (sameFor_takeRecord hq x) ?_) <;> exact List.forall₂_same.mpr fun y _ => .refl q y
    · simp [takeResult, hq]
    · simp [isAttached, takeResult, hq]

/-- The reader is done with one record that it held, which leaves its hold list (R17, R18). -/
theorem holdsAgree_letGo {r : Reader} {id : Identity} {f : EventRecord → EventRecord} {g : ReaderContext → ReaderContext}
    {s : State} (hf : ∀ x, DoneWith r x (f x)) (hlist : (g (s.readers.get r)).holdList = (s.readers.get r).holdList.erase id)
    (hstate : (g (s.readers.get r)).state = (s.readers.get r).state) (h : HoldsAgree s) :
    HoldsAgree ((s.withTable (modifyFirst (heldAs r id) f s.table)).modifyReader r g) := by
  refine ⟨?_, fun q => ?_⟩
  · refine legal_of_letsGo (forall₂_modifyFirst .refl (fun x hx => ?_) s.table) h.legal
    exact ⟨(hf x).identity, fun hlegal => (hf x).legal (required_of_heldAs hx hlegal) hlegal⟩
  · by_cases hq : q = r
    · subst hq
      obtain ⟨hheld, -⟩ := h.readers q
      refine readerMatchesTable_of_yields (forall₂_modifyFirst (.refl q) (fun x _ => (hf x).yields) s.table) ?_ ?_
        (h.readers q)
      · simp [hlist, takenIn_modifyFirst_heldAs hf, hheld, takenBy_eq_takenIn]
      · simp [isAttached, hstate]
    · refine readerMatchesTable_of_sameFor (forall₂_modifyFirst (.refl q) (fun x _ => (hf x).sameFor hq) s.table) ?_ ?_
        (h.readers q)
      · simp [hq]
      · simp [isAttached, hq]

/-- The reader is done with every record that names it, and its hold list is empty (R19). -/
theorem holdsAgree_allDone {r : Reader} {f : EventRecord → EventRecord} {s t : State} (ht : t.table = s.table.map f)
    (hdone : ∀ x, x.required.get r = true → DoneWith r x (f x)) (hother : ∀ x, x.required.get r = false → f x = x)
    (hlist : (t.readers.get r).holdList = []) (hcontexts : ∀ q, q ≠ r → t.readers.get q = s.readers.get q)
    (h : HoldsAgree s) : HoldsAgree t := by
  have hlegal : ∀ x, x.Legal → (f x).Legal := by
    intro x hx
    cases hrequired : x.required.get r with
    | true => exact (hdone x hrequired).legal hrequired hx
    | false => rwa [hother x hrequired]
  refine ⟨by simpa [ht] using fun x hx => hlegal x (h.legal x hx), fun q => ?_⟩
  by_cases hq : q = r
  · subst hq
    have hfree : ∀ x ∈ s.table, (f x).taken.get q = false ∧ ((f x).required.get q = true → (f x).released.get q = true) := by
      intro x hx
      cases hrequired : x.required.get q with
      | true => exact ⟨(hdone x hrequired).not_taken, fun _ => (hdone x hrequired).is_released⟩
      | false =>
        rw [hother x hrequired]
        refine ⟨Bool.eq_false_iff.mpr fun htaken => ?_, fun hy => absurd hy (by simp [hrequired])⟩
        simp [required_of_taken (h.legal x hx) htaken] at hrequired
    refine readerMatchesTable_of_done hlist ?_ ?_
    · simpa [ht] using fun x hx => (hfree x hx).1
    · simpa [ht] using fun x hx => (hfree x hx).2
  · refine readerMatchesTable_of_sameFor ?_ ?_ ?_ (h.readers q)
    · rw [ht, List.forall₂_map_right_iff]
      refine List.forall₂_same.mpr fun x _ => ?_
      cases hrequired : x.required.get r with
      | true => exact (hdone x hrequired).sameFor hq
      | false => rw [hother x hrequired]; exact .refl q x
    · rw [hcontexts q hq]
    · simp [isAttached, hcontexts q hq]

/-! ### Entry and retirement (R12, R21, R22) -/

/-- The entering record is taken by nobody, and names ATTACHED readers alone (R33). -/
theorem holdsAgree_acceptFrame {s : State} (h : HoldsAgree s) : HoldsAgree (acceptFrame s) := by
  have hcontexts := sameContexts_acceptFrame s
  rcases tableAfterEntry_cases s with ⟨hempty, ht⟩ | ⟨ht, -⟩
  · exact h.of_sameHolds (sameHolds_of_sameContexts (by rw [acceptFrame_table, ht, hempty]) hcontexts)
  · have htable : (acceptFrame s).table = s.table ++ [newRecord s] := by rw [acceptFrame_table, ht]
    refine ⟨?_, fun q => ?_⟩
    · simp only [htable, List.forall_mem_append, List.forall_mem_singleton]
      exact ⟨h.legal, newRecord_legal s⟩
    · obtain ⟨hheld, hfits, horder, hdone⟩ := (readerMatchesTable_iff q s).mp (h.readers q)
      have htaken : (newRecord s).taken.get q = false := by simp [newRecord]
      have hlist : ((acceptFrame s).readers.get q).holdList = (s.readers.get q).holdList := by rw [hcontexts q]
      have hattached : isAttached q (acceptFrame s) = isAttached q s := by simp only [isAttached]; rw [hcontexts q]
      refine (readerMatchesTable_iff q _).mpr ⟨?_, hlist ▸ hfits, ?_, fun ha => ?_⟩
      · rw [hlist, htable, takenIn_append, takenIn_cons_of_not_taken htaken, hheld]
        simp [takenIn]
      · rw [htable]
        exact List.pairwise_append.mpr ⟨horder, List.pairwise_singleton _ _, by simp [htaken]⟩
      · rw [hattached] at ha
        have hunnamed : (newRecord s).required.get q = false := by simp [newRecord, requiredOfFrame, attachedSet, ha]
        simp only [htable, List.forall_mem_append, List.forall_mem_singleton]
        exact ⟨hdone ha, by simp [hunnamed]⟩

theorem holdsAgree_retryHeldFrame {s : State} (h : HoldsAgree s) : HoldsAgree (retryHeldFrame s) := by
  unfold retryHeldFrame
  split
  · exact holdsAgree_acceptFrame h
  · exact h

theorem holdsAgree_reevaluateBusy {s : State} (h : HoldsAgree s) : HoldsAgree (reevaluateBusy s) :=
  h.of_sameHolds (sameHolds_reevaluateBusy s)

theorem holdsAgree_applyEpochReset {s : State} (h : HoldsAgree s) : HoldsAgree (applyEpochReset s) :=
  h.of_sameHolds (sameHolds_applyEpochReset s)

theorem holdsAgree_finishCascade {s : State} (h : HoldsAgree s) : HoldsAgree (finishCascade s) := by
  refine holdsAgree_reevaluateBusy (holdsAgree_retryHeldFrame ?_)
  split
  · exact holdsAgree_applyEpochReset h
  · exact h

/-- Records that nobody holds leave at the head. -/
theorem holdsAgree_withTable_rest {s : State} {gone rest : List EventRecord} (ht : s.table = gone ++ rest)
    (hgone : ∀ x ∈ gone, complete x = true) (h : HoldsAgree s) : HoldsAgree (s.withTable rest) := by
  have hlegal := h.legal
  rw [ht, List.forall_mem_append] at hlegal
  obtain ⟨hlegalGone, hlegalRest⟩ := hlegal
  refine ⟨hlegalRest, fun q => ?_⟩
  obtain ⟨hheld, hfits, horder, hdone⟩ := (readerMatchesTable_iff q s).mp (h.readers q)
  have hnone : takenIn q gone = [] := takenIn_eq_nil fun x hx => not_taken_of_complete (hlegalGone x hx) (hgone x hx) q
  rw [ht] at hheld horder hdone
  obtain ⟨-, horderRest, -⟩ := List.pairwise_append.mp horder
  refine (readerMatchesTable_iff q _).mpr ⟨?_, hfits, horderRest, fun ha => ?_⟩
  · simpa [takenIn_append, hnone] using hheld
  · obtain ⟨-, hdoneRest⟩ := List.forall_mem_append.mp (hdone ha)
    exact hdoneRest

theorem holdsAgree_cascade {s : State} (h : HoldsAgree s) : HoldsAgree (cascade s) := by
  unfold cascade
  dsimp only
  split
  · exact h
  · refine holdsAgree_finishCascade (holdsAgree_withTable_rest List.takeWhile_append_dropWhile.symm ?_ h)
    exact fun x hx => List.mem_takeWhile_imp hx

theorem holdsAgree_releaseEntry (r : Reader) (id : Identity) {s : State} (h : HoldsAgree s) :
    HoldsAgree (releaseEntry r id s) :=
  holdsAgree_cascade (holdsAgree_letGo (doneWith_releaseRecord r) rfl rfl h)

theorem holdsAgree_massRelease (r : Reader) (x : ReaderState) {s : State} (h : HoldsAgree s) :
    HoldsAgree (massRelease r x s) := by
  refine holdsAgree_allDone (r := r) rfl (fun y hy => ?_) (fun y hy => by simp [hy]) ?_ (fun q hq => ?_) h
  · simpa [hy] using doneWith_releaseRecord r y
  · simp [massRelease, withdraw]
  · simp [massRelease, hq]

/-! ### Expiries (R71, R72) -/

theorem holdsAgree_expireForce (r : Reader) {s : State} (h : HoldsAgree s) : HoldsAgree (expireForce r s) := by
  unfold expireForce
  split
  next => exact h.of_sameHolds (sameHolds_modifyReader s r fun _ => ⟨rfl, .inl rfl⟩)
  next id rest hlist =>
    refine (holdsAgree_cascade ?_).of_sameHolds (sameHolds_modifyReader _ r fun _ => ⟨rfl, .inl rfl⟩)
    refine (holdsAgree_letGo (id := id) (g := fun c => { c with holdList := rest }) (doneWith_forceReleaseRecord r)
      (by simp [hlist]) rfl h).of_sameHolds ?_
    exact (sameHolds_withCounters _ _).trans (sameHolds_raise r .forced _)

theorem doneWith_lapsedFrom {r : Reader} {x : EventRecord} (h : x.required.get r = true) : DoneWith r x (lapsedFrom r x) := by
  rw [lapsedFrom, if_pos h]
  exact ⟨rfl, rfl, rfl, rfl⟩

theorem holdsAgree_expireLapse (r : Reader) {s : State} (h : HoldsAgree s) : HoldsAgree (expireLapse r s) := by
  obtain ⟨hheld, -⟩ := h.readers r
  rw [expireLapse_eq h.legal hheld]
  refine holdsAgree_reevaluateBusy (holdsAgree_cascade ?_)
  refine holdsAgree_allDone (r := r) rfl (fun _ => doneWith_lapsedFrom) (fun x hx => ?_) ?_ (fun q hq => ?_) h
  · simp [lapsedFrom, hx]
  · simp [lapseResult]
  · simp [lapseResult, hq]

theorem holdsAgree_takeHoldExpiry (r : Reader) {s : State} (h : HoldsAgree s) : HoldsAgree (takeHoldExpiry r s) := by
  unfold takeHoldExpiry
  split
  · split
    · exact holdsAgree_expireForce r h
    · exact holdsAgree_expireLapse r h
  · exact h

/-! ### The timebase -/

theorem holdsAgree_takeDueEvents {s : State} (h : HoldsAgree s) : HoldsAgree (takeDueEvents s) := by
  have hheld := holdsAgree_takeHoldExpiry .d <| holdsAgree_takeHoldExpiry .c <| holdsAgree_takeHoldExpiry .b <|
    holdsAgree_takeHoldExpiry .a h
  exact hheld.of_sameHolds (sameHolds_of_eq (by simp [takeDueEvents]) (by simp [takeDueEvents]))

theorem sameHolds_completeSettle (s : State) : SameHolds s (completeSettle s) :=
  (sameHolds_withTimebase s _).trans ((sameHolds_raiseFor _ _ _).trans (sameHolds_reevaluateBusy _))

theorem sameHolds_settleEdges (n : Nat) (s : State) : SameHolds s (settleEdges n s) := by
  unfold settleEdges
  split
  · split
    · exact sameHolds_completeSettle s
    · exact sameHolds_of_eq rfl rfl
  · exact .refl s

/-- Pulses reach the timers alone. -/
theorem sameHolds_holdPulses (s : State) : SameHolds s (holdPulses s) := by
  refine sameHolds_of_contexts rfl fun q => ?_
  simp only [holdPulses, State.withReaders_readers, PerReader.get_mapWith]
  split <;> exact ⟨rfl, rfl⟩

theorem sameHolds_countTick (s : State) : SameHolds s (countTick s) := by
  have hpulse (t : State) : SameHolds t (coarsePulse t) := sameHolds_of_eq (by simp) (by simp)
  exact (sameHolds_withTimebase s _).trans <| (sameHolds_settleEdges _ _).trans <| (sameHolds_withTimebase _ _).trans <|
    (hpulse _).trans <| (sameHolds_holdPulses _).trans (sameHolds_settleEdges _ _)

theorem holdsAgree_takeTick {s : State} (h : HoldsAgree s) : HoldsAgree (takeTick s) :=
  (holdsAgree_takeDueEvents h).of_sameHolds (sameHolds_countTick _)

theorem holdsAgree_takeDueTick {s : State} (h : HoldsAgree s) : HoldsAgree (takeDueTick s) := by
  unfold takeDueTick
  split
  · exact holdsAgree_takeTick h
  · exact h

theorem holdsAgree_countRefclkEdge {s : State} (h : HoldsAgree s) : HoldsAgree (countRefclkEdge s) := by
  unfold countRefclkEdge
  split
  · exact (holdsAgree_takeDueTick h).of_sameHolds ((sameHolds_withTimebase _ _).trans (sameHolds_settleEdges _ _))
  · exact h.of_sameHolds (sameHolds_of_eq rfl rfl)

theorem holdsAgree_takeSettleComplete {s : State} (h : HoldsAgree s) : HoldsAgree (takeSettleComplete s) := by
  unfold takeSettleComplete
  dsimp only
  split
  · exact (holdsAgree_takeDueTick h).of_sameHolds ((sameHolds_withTimebase _ _).trans (sameHolds_completeSettle _))
  · exact h

theorem sameHolds_fallback (s : State) : SameHolds s (fallback s) :=
  (sameHolds_withTimebase s _).trans <| (sameHolds_raiseFor _ _ _).trans <|
    (sameHolds_withCounters _ _).trans (sameHolds_reevaluateBusy _)

theorem holdsAgree_loseRefclk {s : State} (h : HoldsAgree s) : HoldsAgree (loseRefclk s) := by
  unfold loseRefclk
  split
  · exact (holdsAgree_takeDueTick h).of_sameHolds ((sameHolds_withTimebase _ _).trans (sameHolds_fallback _))
  · exact h.of_sameHolds (sameHolds_of_eq rfl rfl)

theorem holdsAgree_switchReference (x : ReferenceSelection) {s : State} (h : HoldsAgree s) :
    HoldsAgree (switchReference x s) :=
  holdsAgree_reevaluateBusy ((holdsAgree_takeDueTick h).of_sameHolds (sameHolds_withTimebase _ _))

/-! ### Settings -/

theorem sameHolds_storeSetting (x : Setting) (v : Value16) (s : State) : SameHolds s (storeSetting x v s) := by
  cases x with
  | shared y => exact sameHolds_of_eq (by simp) (by simp [storeSetting])
  | ofReader r y =>
    exact sameHolds_modifyReader s r (f := fun c => { c with settings := storeReaderSetting y v c.settings })
      fun _ => ⟨rfl, .inl rfl⟩

theorem sameHolds_applySetting (x : Setting) (s : State) : SameHolds s (applySetting x s) := by
  unfold applySetting
  split
  case h_5 r => exact sameHolds_modifyReader s r fun c => by unfold rejudgePulse; split <;> exact ⟨rfl, .inl rfl⟩
  case h_6 => exact .refl s
  all_goals exact sameHolds_of_eq (by simp) (by simp)

theorem holdsAgree_writeSetting (x : Setting) (v : Value16) {s : State} (h : HoldsAgree s) :
    HoldsAgree (writeSetting x v s) := by
  have hrestart : HoldsAgree (if x = .shared .tickPrescale then restartDivider s else s) := by
    split
    · exact (holdsAgree_takeDueTick h).of_sameHolds (sameHolds_withTimebase _ _)
    · exact h
  exact hrestart.of_sameHolds ((sameHolds_storeSetting x v _).trans (sameHolds_applySetting x _))

/-! ### The trigger bus -/

theorem sameHolds_countTruncation (s : State) : SameHolds s (countTruncation s) := by
  unfold countTruncation; split <;> exact sameHolds_of_eq rfl rfl

theorem sameHolds_takeStartMark (s : State) : SameHolds s (takeStartMark s) := by
  unfold takeStartMark
  split
  · exact .refl s
  · exact (sameHolds_countTruncation s).trans (sameHolds_withTrigger _ _)

theorem sameHolds_takeStopMark (s : State) : SameHolds s (takeStopMark s) := by
  unfold takeStopMark
  split
  · exact .refl s
  · exact (sameHolds_countTruncation s).trans (sameHolds_withTrigger _ _)

theorem sameHolds_badFrame (s : State) : SameHolds s (badFrame s) := sameHolds_of_eq rfl rfl

theorem sameHolds_judgeAddress (byte : Byte) (s : State) : SameHolds s (judgeAddress byte s) := by
  unfold judgeAddress; (repeat' split) <;> exact sameHolds_withTrigger s _

theorem sameHolds_judgeHeader (byte : Byte) (s : State) : SameHolds s (judgeHeader byte s) := by
  unfold judgeHeader
  dsimp only
  split
  · exact sameHolds_badFrame s
  · exact sameHolds_withTrigger s _
  · exact sameHolds_withTrigger s _

theorem sameHolds_judgeClass (byte : Byte) (s : State) : SameHolds s (judgeClass byte s) := by
  unfold judgeClass
  dsimp only
  split
  · exact sameHolds_withTrigger s _
  · exact sameHolds_badFrame s

theorem holdsAgree_judgeTriggerCheck (byte : Byte) {s : State} (h : HoldsAgree s) :
    HoldsAgree (judgeTriggerCheck byte s) := by
  unfold judgeTriggerCheck
  split
  · exact h.of_sameHolds (sameHolds_badFrame s)
  split
  · exact h.of_sameHolds (sameHolds_of_eq rfl rfl)
  split
  · exact holdsAgree_acceptFrame h
  split
  · exact h.of_sameHolds (sameHolds_of_eq rfl rfl)
  · exact h.of_sameHolds (sameHolds_of_eq rfl rfl)

theorem holdsAgree_requestEpochReset {s : State} (h : HoldsAgree s) : HoldsAgree (requestEpochReset s) := by
  unfold requestEpochReset
  split
  · exact h
  split
  · exact holdsAgree_reevaluateBusy (holdsAgree_applyEpochReset h)
  · exact holdsAgree_reevaluateBusy (h.of_sameHolds (sameHolds_of_eq rfl rfl))

theorem holdsAgree_judgeEpochCheck (byte : Byte) {s : State} (h : HoldsAgree s) : HoldsAgree (judgeEpochCheck byte s) := by
  unfold judgeEpochCheck
  split
  · exact h.of_sameHolds (sameHolds_badFrame s)
  split
  · exact h.of_sameHolds (sameHolds_withTrigger s _)
  · exact (holdsAgree_requestEpochReset h).of_sameHolds (sameHolds_withTrigger _ _)

theorem holdsAgree_receiveByte (byte : Byte) {s : State} (h : HoldsAgree s) : HoldsAgree (receiveByte byte s) := by
  unfold receiveByte
  split
  · exact h.of_sameHolds (sameHolds_withTrigger s _)
  · exact h.of_sameHolds (sameHolds_withTrigger s _)
  · exact h.of_sameHolds (sameHolds_judgeAddress byte s)
  · exact h.of_sameHolds (sameHolds_judgeHeader byte s)
  · exact h.of_sameHolds (sameHolds_judgeClass byte s)
  · exact h.of_sameHolds (sameHolds_withTrigger s _)
  · split
    · exact holdsAgree_judgeTriggerCheck byte h
    · exact holdsAgree_judgeEpochCheck byte h
  · exact h
  · exact h

theorem sameHolds_sendStatusByte (acknowledged : Bool) (s : State) : SameHolds s (sendStatusByte acknowledged s) := by
  unfold sendStatusByte
  split
  · split <;> exact sameHolds_withTrigger s _
  · exact .refl s

/-- EPOCH_RESET: a pending reset at an empty table (R122). -/
theorem holdsAgree_takeEpochReset {s : State} (h : HoldsAgree s) :
    HoldsAgree (if s.numbering.epochPending && s.table.isEmpty then reevaluateBusy (applyEpochReset s) else s) := by
  split
  · exact holdsAgree_reevaluateBusy (holdsAgree_applyEpochReset h)
  · exact h

/-! ### The readers' commands -/

theorem sameHolds_answerCauses (r : Reader) (s : State) : SameHolds s (answerCauses r s).after :=
  sameHolds_modifyReader s r (f := fun c => { c with causes := 0 }) fun _ => ⟨rfl, .inl rfl⟩

/-- A hold depth in its range leaves a hold list of at most 4 (R44, R164). -/
theorem holdsAgree_answerTake {r : Reader} {s : State} (hdepth : (s.readers.get r).settings.holdDepth ≤ 4)
    (h : HoldsAgree s) : HoldsAgree (answerTake r s).after := by
  by_cases hstate : (s.readers.get r).state = .attached
  · by_cases hroom : (s.readers.get r).holdList.length < (s.readers.get r).settings.holdDepth
    · cases hfind : s.table.find? (availableTo r) with
      | none => rw [answerTake_empty hstate hroom hfind]; exact h
      | some x =>
        obtain ⟨hx, before, after, ht, hbefore⟩ := List.find?_eq_some_iff_append.mp hfind
        have hbefore : ∀ y ∈ before, availableTo r y = false := fun y hy => by simpa using hbefore y hy
        rw [answerTake_taken hstate hroom ht hbefore hx]
        exact holdsAgree_takeResult hstate (hroom.trans_le hdepth) ht hbefore hx h
    · rw [answerTake_holdFull hstate (Nat.le_of_not_lt hroom)]
      exact h
  · rw [answerTake_badState hstate]
    exact h

theorem holdsAgree_answerRelease (r : Reader) (id : Identity) {s : State} (h : HoldsAgree s) :
    HoldsAgree (answerRelease r id s).after := by
  unfold answerRelease
  dsimp only
  split
  · exact h
  split
  · exact holdsAgree_releaseEntry r id h
  · exact h

theorem holdsAgree_answerReleaseOldest (r : Reader) {s : State} (h : HoldsAgree s) :
    HoldsAgree (answerReleaseOldest r s).after := by
  unfold answerReleaseOldest
  dsimp only
  split
  · exact h
  split
  · exact h
  · exact holdsAgree_releaseEntry r _ h

theorem holdsAgree_answerAttach (r : Reader) {s : State} (h : HoldsAgree s) : HoldsAgree (answerAttach r s).after := by
  unfold answerAttach
  split
  · exact holdsAgree_reevaluateBusy (h.of_sameHolds (sameHolds_modifyReader s r fun _ => ⟨rfl, .inr rfl⟩))
  · exact h

theorem holdsAgree_answerDetach (r : Reader) {s : State} (h : HoldsAgree s) : HoldsAgree (answerDetach r s).after := by
  unfold answerDetach
  split
  · exact h
  · exact holdsAgree_reevaluateBusy (holdsAgree_cascade (holdsAgree_massRelease r _ h))

theorem holdsAgree_answerResume (r : Reader) {s : State} (h : HoldsAgree s) : HoldsAgree (answerResume r s).after := by
  unfold answerResume
  split
  · exact holdsAgree_reevaluateBusy (h.of_sameHolds (sameHolds_modifyReader s r fun _ => ⟨rfl, .inr rfl⟩))
  · exact h

theorem holdsAgree_answerDeclareBusy (r : Reader) (value : Byte) {s : State} (h : HoldsAgree s) :
    HoldsAgree (answerDeclareBusy r value s).after := by
  unfold answerDeclareBusy
  dsimp only
  split
  · split
    · exact h
    · exact holdsAgree_reevaluateBusy (h.of_sameHolds (sameHolds_modifyReader s r fun _ => ⟨rfl, .inl rfl⟩))
  · exact h

theorem holdsAgree_answerReaderReset (r : Reader) {s : State} (h : HoldsAgree s) :
    HoldsAgree (answerReaderReset r s).after := by
  refine holdsAgree_reevaluateBusy ((holdsAgree_cascade (holdsAgree_massRelease r .detached h)).of_sameHolds ?_)
  rw [freeTokenOf_eq]
  refine .trans (sameHolds_modifyReader _ r ?_) (sameHolds_withToken _ _)
  exact fun _ => ⟨rfl, .inl rfl⟩

/-! ### The commands that act on the hub -/

theorem sameHolds_answerClaim (r : Reader) (s : State) : SameHolds s (answerClaim r s).after := by
  unfold answerClaim
  split
  · exact sameHolds_of_eq rfl rfl
  split
  · exact .refl s
  split
  · exact .refl s
  · exact (sameHolds_raise _ .tokenLost s).trans (sameHolds_of_eq rfl rfl)

theorem sameHolds_answerYield (r : Reader) (s : State) : SameHolds s (answerYield r s).after := by
  unfold answerYield; split <;> exact sameHolds_of_eq rfl rfl

theorem holdsAgree_answerSet (r : Reader) (id : Byte) (v : Value16) {s : State} (h : HoldsAgree s) :
    HoldsAgree (answerSet r id v s).after := by
  unfold answerSet
  split
  · exact h
  split
  · exact h
  split
  · exact holdsAgree_writeSetting _ v h
  · exact h

theorem sameHolds_answerGet (id : Byte) (s : State) : SameHolds s (answerGet id s).after := by
  unfold answerGet; split <;> exact .refl s

theorem sameHolds_answerRuleWrite (r : Reader) (index enable pattern mask sets interval : Byte) (s : State) :
    SameHolds s (answerRuleWrite r index enable pattern mask sets interval s).after := by
  unfold answerRuleWrite; (repeat' split) <;> exact sameHolds_of_eq rfl rfl

theorem sameHolds_answerRuleRead (index : Byte) (s : State) : SameHolds s (answerRuleRead index s).after := by
  unfold answerRuleRead; split <;> exact .refl s

theorem holdsAgree_answerEpoch (r : Reader) {s : State} (h : HoldsAgree s) : HoldsAgree (answerEpoch r s).after := by
  unfold answerEpoch
  split
  · exact h
  split
  · exact h
  split
  · exact holdsAgree_reevaluateBusy (holdsAgree_applyEpochReset h)
  · exact h

/-- A clear leaves no record and no hold list, so it agrees from any state (R24). -/
theorem holdsAgree_hubClear (s : State) : HoldsAgree (hubClear s) := by
  have hempty : HoldsAgree (emptyHub s) := holdsAgree_emptied rfl fun q => by simp [emptyHub]
  have hreset : HoldsAgree (if (emptyHub s).numbering.epochPending then applyEpochReset (emptyHub s) else emptyHub s) := by
    split
    · exact holdsAgree_applyEpochReset hempty
    · exact hempty
  exact holdsAgree_retryHeldFrame (holdsAgree_reevaluateBusy (hreset.of_sameHolds (sameHolds_raiseFor _ .cleared _)))

theorem holdsAgree_answerClear (r : Reader) {s : State} (h : HoldsAgree s) : HoldsAgree (answerClear r s).after := by
  unfold answerClear
  split
  · exact holdsAgree_hubClear s
  · exact h

theorem holdsAgree_answerReference (r : Reader) (value : Byte) {s : State} (h : HoldsAgree s) :
    HoldsAgree (answerReference r value s).after := by
  unfold answerReference
  split
  · exact h
  split
  · exact h
  split
  · exact h
  split
  · exact h
  · exact holdsAgree_switchReference _ h

theorem sameHolds_answerCounter (r : Reader) (index form : Byte) (s : State) :
    SameHolds s (answerCounter r index form s).after := by
  unfold answerCounter; (repeat' split) <;> exact .refl s

theorem sameHolds_answerClearCounters (r : Reader) (s : State) : SameHolds s (answerClearCounters r s).after := by
  unfold answerClearCounters; split <;> exact sameHolds_of_eq rfl rfl

/-! ### Every step -/

theorem holdsAgree_whileRunning {f : State → State} {s : State} (hf : HoldsAgree s → HoldsAgree (f s)) (h : HoldsAgree s) :
    HoldsAgree (whileRunning f s) := by
  unfold whileRunning
  split
  · exact h
  · exact hf h

/-- A reader command agrees where its answer does. -/
theorem holdsAgree_command {act : State → Answer} {s : State} (hact : HoldsAgree s → HoldsAgree (act s).after)
    (r : Reader) (code : Byte) (args : List Byte) (length : Nat) (h : HoldsAgree s) :
    HoldsAgree (command r code args length act s) := by
  unfold command
  split
  · exact (hact h).of_sameHolds (sameHolds_withPorts _ _)
  · exact h

theorem holdsAgree_setCommand (r : Reader) (id : Byte) (v : Value16) {s : State} (h : HoldsAgree s) :
    HoldsAgree (setCommand r id v s) := holdsAgree_command (holdsAgree_answerSet r id v) r _ _ _ h

/-- A command whose answer touches neither table nor hold lists. -/
theorem holdsAgree_report {act : State → Answer} {s : State} (hact : SameHolds s (act s).after) (r : Reader) (code : Byte)
    (args : List Byte) (length : Nat) (h : HoldsAgree s) : HoldsAgree (command r code args length act s) :=
  holdsAgree_command (fun h => h.of_sameHolds hact) r code args length h

theorem exec_holdsAgree (c : Instr) {s : State} (hdepth : ∀ r, (s.readers.get r).settings.holdDepth ≤ 4)
    (h : HoldsAgree s) : ∃ t, exec c s = .next t ∧ HoldsAgree t := by
  have same {t : State} (hsame : SameHolds s t) : HoldsAgree t := h.of_sameHolds hsame
  have event {f : State → State} (hsame : SameHolds s (f s)) : HoldsAgree (whileRunning f s) :=
    holdsAgree_whileRunning (fun h => h.of_sameHolds hsame) h
  have byteEvent (byte : Byte) : HoldsAgree (whileRunning (receiveByte byte) s) :=
    holdsAgree_whileRunning (holdsAgree_receiveByte byte) h
  cases c with
  | deviceReset => exact ⟨_, rfl, holdsAgree_emptied rfl fun q => by cases q <;> rfl⟩
  | resetRelease => exact ⟨_, rfl, same (by split; exacts [sameHolds_of_eq (by simp) (by simp), .refl s])⟩
  | tick => exact ⟨_, rfl, holdsAgree_whileRunning holdsAgree_takeTick h⟩
  | holdExpiry r => exact ⟨_, rfl, holdsAgree_whileRunning (holdsAgree_takeHoldExpiry r) h⟩
  | minimumHoldExpiry => exact ⟨_, rfl, event (sameHolds_of_eq (by simp) (by simp))⟩
  | stretchExpiry => exact ⟨_, rfl, event (sameHolds_of_eq (by simp) (by simp))⟩
  | refclkEdge => exact ⟨_, rfl, holdsAgree_whileRunning holdsAgree_countRefclkEdge h⟩
  | refclkAbsent => exact ⟨_, rfl, holdsAgree_whileRunning holdsAgree_loseRefclk h⟩
  | settleComplete => exact ⟨_, rfl, holdsAgree_whileRunning holdsAgree_takeSettleComplete h⟩
  | startMark => exact ⟨_, rfl, event (sameHolds_takeStartMark s)⟩
  | stopMark => exact ⟨_, rfl, event (sameHolds_takeStopMark s)⟩
  | addressByte byte => exact ⟨_, rfl, byteEvent byte⟩
  | headerByte byte => exact ⟨_, rfl, byteEvent byte⟩
  | classByte byte => exact ⟨_, rfl, byteEvent byte⟩
  | tagByte byte => exact ⟨_, rfl, byteEvent byte⟩
  | triggerCheckByte byte => exact ⟨_, rfl, byteEvent byte⟩
  | holdingEntry => exact ⟨_, rfl, holdsAgree_whileRunning holdsAgree_retryHeldFrame h⟩
  | epochCheckByte byte => exact ⟨_, rfl, byteEvent byte⟩
  | epochReset => exact ⟨_, rfl, holdsAgree_whileRunning holdsAgree_takeEpochReset h⟩
  | statusReadByte acknowledged => exact ⟨_, rfl, event (sameHolds_sendStatusByte acknowledged s)⟩
  | transactionOpen r => exact ⟨_, rfl, same (by split <;> exact sameHolds_of_eq rfl rfl)⟩
  | transactionEnd r => exact ⟨_, rfl, same (by split <;> exact sameHolds_of_eq rfl rfl)⟩
  | badCommand r code =>
    refine ⟨_, rfl, ?_⟩
    split
    · exact h
    · exact holdsAgree_report (.refl s) r _ _ _ h
  | status r => exact ⟨_, rfl, holdsAgree_report (.refl s) r _ _ _ h⟩
  | time r => exact ⟨_, rfl, holdsAgree_report (.refl s) r _ _ _ h⟩
  | causes r => exact ⟨_, rfl, holdsAgree_report (sameHolds_answerCauses r s) r _ _ _ h⟩
  | take r => exact ⟨_, rfl, holdsAgree_command (holdsAgree_answerTake (hdepth r)) r _ _ _ h⟩
  | release r epoch number => exact ⟨_, rfl, holdsAgree_command (holdsAgree_answerRelease r _) r _ _ _ h⟩
  | releaseOldest r => exact ⟨_, rfl, holdsAgree_command (holdsAgree_answerReleaseOldest r) r _ _ _ h⟩
  | held r => exact ⟨_, rfl, holdsAgree_report (.refl s) r _ _ _ h⟩
  | attach r => exact ⟨_, rfl, holdsAgree_command (holdsAgree_answerAttach r) r _ _ _ h⟩
  | detach r => exact ⟨_, rfl, holdsAgree_command (holdsAgree_answerDetach r) r _ _ _ h⟩
  | resume r => exact ⟨_, rfl, holdsAgree_command (holdsAgree_answerResume r) r _ _ _ h⟩
  | declareBusy r value => exact ⟨_, rfl, holdsAgree_command (holdsAgree_answerDeclareBusy r value) r _ _ _ h⟩
  | readerReset r => exact ⟨_, rfl, holdsAgree_command (holdsAgree_answerReaderReset r) r _ _ _ h⟩
  | claim r => exact ⟨_, rfl, holdsAgree_report (sameHolds_answerClaim r s) r _ _ _ h⟩
  | yield r => exact ⟨_, rfl, holdsAgree_report (sameHolds_answerYield r s) r _ _ _ h⟩
  | set r id value => exact ⟨_, rfl, holdsAgree_setCommand r _ value h⟩
  | setBusyHigh r value => exact ⟨_, rfl, holdsAgree_setCommand r _ value h⟩
  | setBusyLow r value => exact ⟨_, rfl, holdsAgree_setCommand r _ value h⟩
  | setForceBusy r value => exact ⟨_, rfl, holdsAgree_setCommand r _ value h⟩
  | setSettleBusy r value => exact ⟨_, rfl, holdsAgree_setCommand r _ value h⟩
  | setTickPrescale r value => exact ⟨_, rfl, holdsAgree_setCommand r _ value h⟩
  | setRunNumber r value => exact ⟨_, rfl, holdsAgree_setCommand r _ value h⟩
  | setAttnMask r target value => exact ⟨_, rfl, holdsAgree_setCommand r _ value h⟩
  | get r id => exact ⟨_, rfl, holdsAgree_report (sameHolds_answerGet id s) r _ _ _ h⟩
  | ruleWrite r index enable pattern mask sets interval =>
    exact ⟨_, rfl, holdsAgree_report (sameHolds_answerRuleWrite r index enable pattern mask sets interval s) r _ _ _ h⟩
  | ruleRead r index => exact ⟨_, rfl, holdsAgree_report (sameHolds_answerRuleRead index s) r _ _ _ h⟩
  | epoch r => exact ⟨_, rfl, holdsAgree_command (holdsAgree_answerEpoch r) r _ _ _ h⟩
  | clear r => exact ⟨_, rfl, holdsAgree_command (holdsAgree_answerClear r) r _ _ _ h⟩
  | reference r value => exact ⟨_, rfl, holdsAgree_command (holdsAgree_answerReference r value) r _ _ _ h⟩
  | counter r index form => exact ⟨_, rfl, holdsAgree_report (sameHolds_answerCounter r index form s) r _ _ _ h⟩
  | clearCounters r => exact ⟨_, rfl, holdsAgree_report (sameHolds_answerClearCounters r s) r _ _ _ h⟩

/-- Settles O55: a byte time leaves table and hold lists alone, and every command keeps them in agreement. -/
theorem stepKeepsReadersMatchingTheTable : Obligations.StepKeepsReadersMatchingTheTable := by
  intro s t hsettings htable _ hreaders hstep
  obtain ⟨-, hlegalReaders, -⟩ := hsettings
  obtain ⟨-, hlegal, -⟩ := htable
  have h : HoldsAgree s := ⟨hlegal, hreaders⟩
  unfold step at hstep
  split at hstep
  next =>
    obtain rfl : byteTime s = t := by injection hstep
    exact (h.of_sameHolds (sameHolds_withPorts s _)).readers
  next c rest _ =>
    have hdepth (r : Reader) : (s.readers.get r).settings.holdDepth ≤ 4 := by
      obtain ⟨-, -, -, hmost⟩ := hlegalReaders r
      exact hmost
    have hqueue : HoldsAgree (s.withPending rest) := h.of_sameHolds (sameHolds_withPending s rest)
    obtain ⟨u, hu, hagree⟩ := exec_holdsAgree c (s := s.withPending rest) hdepth hqueue
    obtain rfl : u = t := by rw [hu] at hstep; injection hstep
    exact hagree.readers

end Sys2Proof.Machine
end

section
/-! SUPPORT. The hold timers and the stretch timer after every event (R65, R69, R91): first what a load, a pulse and a change of the
hold list do to one timer, then event by event. -/

namespace Sys2Proof.Machine

/-! ### One hold timer (R65, R67, R68) -/

/-- A timer at work on a first entry: not STOPPED, and with 1 to 255 while it counts. -/
def HoldTimer.Supervises (t : HoldTimer) : Prop := t ≠ .stopped ∧ ∀ v, t = .running v → 1 ≤ v ∧ v ≤ 255

theorem supervises_pulseDue : HoldTimer.pulseDue.Supervises := ⟨by simp, nofun⟩

theorem supervises_running_iff (v : Nat) : (HoldTimer.running v).Supervises ↔ 1 ≤ v ∧ v ≤ 255 := by
  simp [HoldTimer.Supervises]

theorem supervises_loadHoldTimer {limit : Nat} (h : limit ≤ 255) : (loadHoldTimer limit).Supervises := by
  unfold loadHoldTimer
  split
  · exact ⟨by simp, nofun⟩
  · exact (supervises_running_iff limit).mpr (by omega)

theorem supervises_holdPulse {t : HoldTimer} (h : t.Supervises) : (holdPulse t).Supervises := by
  cases t with
  | stopped | untimed | pulseDue => exact h
  | running v =>
    have hrange := (supervises_running_iff v).mp h
    simp only [holdPulse]
    split
    · exact supervises_pulseDue
    · exact (supervises_running_iff _).mpr (by omega)

theorem supervises_reloadHoldTimer {new : HoldTimer} (old : HoldTimer) (h : new.Supervises) :
    (reloadHoldTimer old new).Supervises := by
  unfold reloadHoldTimer
  split
  · exact supervises_holdPulse h
  · exact h

/-! ### The hold timer of one context (R51, R65, R69) -/

theorem holdTimerLegal_iff (c : ReaderContext) :
    holdTimerLegal c ↔ (c.holdList = [] ∧ c.holdTimer = .stopped) ∨ (c.holdList ≠ [] ∧ c.holdTimer.Supervises) := by
  unfold holdTimerLegal
  by_cases hlist : c.holdList = []
  · have hstopped : c.holdTimer = .stopped → ∀ v, c.holdTimer = .running v → 1 ≤ v ∧ v ≤ 255 := fun h => by simp [h]
    simpa [hlist] using hstopped
  · simp [hlist, HoldTimer.Supervises]

theorem holdTimerLegal_emptied {c : ReaderContext} (hlist : c.holdList = []) (htimer : c.holdTimer = .stopped) :
    holdTimerLegal c := (holdTimerLegal_iff c).mpr (.inl ⟨hlist, htimer⟩)

theorem holdTimerLegal_holding {c : ReaderContext} (hlist : c.holdList ≠ []) (htimer : c.holdTimer.Supervises) :
    holdTimerLegal c := (holdTimerLegal_iff c).mpr (.inr ⟨hlist, htimer⟩)

theorem supervises_of_holding {c : ReaderContext} (h : holdTimerLegal c) (hlist : c.holdList ≠ []) : c.holdTimer.Supervises := by
  obtain ⟨hnil, -⟩ | ⟨-, htimer⟩ := (holdTimerLegal_iff c).mp h
  · exact absurd hnil hlist
  · exact htimer

/-- The hold timer answers for the hold list alone. -/
theorem holdTimerLegal_congr {c d : ReaderContext} (hlist : d.holdList = c.holdList) (htimer : d.holdTimer = c.holdTimer)
    (h : holdTimerLegal c) : holdTimerLegal d := by
  unfold holdTimerLegal
  rw [hlist, htimer]
  exact h

/-- With the first entry gone the timer loads for the next one, or stops (R51). -/
theorem holdTimerLegal_timerForNext {c : ReaderContext} {limit : Nat} {rest : List Identity} (hlimit : limit ≤ 255)
    (hlist : c.holdList = rest) (htimer : c.holdTimer = timerForNext limit rest) : holdTimerLegal c := by
  cases rest with
  | nil => exact holdTimerLegal_emptied hlist htimer
  | cons id rest =>
    refine holdTimerLegal_holding (by simp [hlist]) ?_
    rw [htimer]
    exact supervises_loadHoldTimer hlimit

theorem holdTimerLegal_addEntry {c : ReaderContext} (id : Identity) (hlimit : c.settings.holdLimit ≤ 255)
    (h : holdTimerLegal c) : holdTimerLegal (addEntry id c) := by
  refine holdTimerLegal_holding (by simp [addEntry]) ?_
  rw [addEntry]
  dsimp only
  split
  · exact supervises_loadHoldTimer hlimit
  next hlist => exact supervises_of_holding h (by simpa using hlist)

theorem holdTimerLegal_removeEntry {c : ReaderContext} (id : Identity) (hlimit : c.settings.holdLimit ≤ 255)
    (h : holdTimerLegal c) : holdTimerLegal (removeEntry id c) := by
  cases hlist : c.holdList with
  | nil =>
    refine holdTimerLegal_congr (c := c) ?_ ?_ h <;> simp [removeEntry, hlist]
  | cons first rest =>
    by_cases hfirst : first = id
    · have hremoved : (removeEntry id c).holdList = rest := by simp [removeEntry, hlist, hfirst]
      have htimer : (removeEntry id c).holdTimer = reloadHoldTimer c.holdTimer (timerForNext c.settings.holdLimit rest) := by
        simp [removeEntry, hlist, hfirst]
      cases rest with
      | nil =>
        refine holdTimerLegal_emptied hremoved (htimer.trans ?_)
        simp [reloadHoldTimer, timerForNext, holdPulse]
      | cons next rest =>
        refine holdTimerLegal_holding (by simp [hremoved]) ?_
        rw [htimer]
        exact supervises_reloadHoldTimer _ (supervises_loadHoldTimer hlimit)
    · have hremoved : (removeEntry id c).holdList = first :: rest.erase id := by
        simp [removeEntry, hlist, hfirst]
      have htimer : (removeEntry id c).holdTimer = c.holdTimer := by simp [removeEntry, hlist, hfirst]
      refine holdTimerLegal_holding (by simp [hremoved]) ?_
      rw [htimer]
      exact supervises_of_holding h (by simp [hlist])

/-- A pulse moves no timer of an empty list, and keeps every other one at work (R68). -/
theorem holdTimerLegal_holdPulse {c : ReaderContext} (h : holdTimerLegal c) :
    holdTimerLegal { c with holdTimer := holdPulse c.holdTimer } := by
  obtain ⟨hlist, htimer⟩ | ⟨hlist, htimer⟩ := (holdTimerLegal_iff c).mp h
  · exact holdTimerLegal_emptied hlist (by simp [htimer, holdPulse])
  · exact holdTimerLegal_holding hlist (supervises_holdPulse htimer)

/-- A pulse judged anew by HOLD_CLOCK waits on, or the timer counts on from 1 (R75). -/
theorem holdTimerLegal_rejudgePulse {c : ReaderContext} (count : BitVec 48) (h : holdTimerLegal c) :
    holdTimerLegal (rejudgePulse count c) := by
  unfold rejudgePulse
  split
  next hrejected =>
    obtain ⟨hdue, -⟩ := hrejected
    have hlist : c.holdList ≠ [] := fun hnil => by
      obtain ⟨hstopped, -⟩ := h
      simp [hstopped.mpr hnil] at hdue
    exact holdTimerLegal_holding hlist ((supervises_running_iff 1).mpr (by omega))
  next => exact h

/-! ### The stretch timer (R91, R92) -/

/-- The stretch timer runs exactly while the port is HOLDING, with 1 to 255. -/
def StretchTimerLegal (p : TriggerPort) : Prop :=
  (p.stretchTimer = .stopped ↔ p.state ≠ .holding) ∧ ∀ v, p.stretchTimer = .running v → 1 ≤ v ∧ v ≤ 255

theorem stretchTimerLegal_stopped {p : TriggerPort} (hstate : p.state ≠ .holding) (htimer : p.stretchTimer = .stopped) :
    StretchTimerLegal p := ⟨by simp [hstate, htimer], by simp [htimer]⟩

theorem stretchTimerLegal_running {p : TriggerPort} {v : Nat} (hstate : p.state = .holding) (htimer : p.stretchTimer = .running v)
    (hrange : 1 ≤ v ∧ v ≤ 255) : StretchTimerLegal p := by
  refine ⟨by simp [hstate, htimer], fun w hw => ?_⟩
  obtain rfl : v = w := by rw [htimer] at hw; injection hw
  exact hrange

/-- Outside HOLDING the timer stands still while the frame state moves. -/
theorem StretchTimerLegal.moves {p q : TriggerPort} (h : StretchTimerLegal p) (hp : p.state ≠ .holding) (hq : q.state ≠ .holding)
    (htimer : q.stretchTimer = p.stretchTimer) : StretchTimerLegal q := by
  obtain ⟨hstopped, -⟩ := h
  exact stretchTimerLegal_stopped hq (htimer.trans (hstopped.mpr hp))

/-- The stretch timer answers for the frame state alone. -/
theorem StretchTimerLegal.congr {p q : TriggerPort} (h : StretchTimerLegal p) (hstate : q.state = p.state)
    (htimer : q.stretchTimer = p.stretchTimer) : StretchTimerLegal q := by
  unfold StretchTimerLegal
  rw [hstate, htimer]
  exact h

theorem stretchTimerLegal_stretchPulse {p : TriggerPort} (h : StretchTimerLegal p) : StretchTimerLegal (stretchPulse p) := by
  unfold stretchPulse
  split
  next v hstate htimer =>
    obtain ⟨-, hrange⟩ := h
    have hv := hrange v htimer
    split
    · exact ⟨by simp [hstate], nofun⟩
    · exact stretchTimerLegal_running hstate rfl (by omega)
  next => exact h

/-! ### The timers of the hub -/

/-- `timersLegal`, with every HOLD_LIMIT in its range, from which the hold timers load (R67, R164). -/
structure Timed (s : State) : Prop where
  limits  : ∀ q, (s.readers.get q).settings.holdLimit ≤ 255
  holds   : ∀ q, holdTimerLegal (s.readers.get q)
  stretch : StretchTimerLegal s.trigger

theorem Timed.timersLegal {s : State} (h : Timed s) : timersLegal s := ⟨h.holds, h.stretch⟩

theorem timed_of_legal {s : State} (hsettings : settingsLegal s) (h : Machine.timersLegal s) : Timed s := by
  obtain ⟨-, hreaders, -⟩ := hsettings
  obtain ⟨hholds, hstretch⟩ := h
  refine ⟨fun q => ?_, hholds, hstretch⟩
  obtain ⟨hlimit, -⟩ := hreaders q
  exact hlimit

/-- Events that leave hold lists, hold timers and settings of the contexts alone. -/
theorem Timed.of_sameContexts {s t : State} (h : Timed s) (hcontexts : SameContexts s t) (hstretch : StretchTimerLegal t.trigger) :
    Timed t :=
  ⟨fun q => by rw [hcontexts q]; exact h.limits q, fun q => by rw [hcontexts q]; exact h.holds q, hstretch⟩

/-- Events that leave the contexts and the trigger port alone. -/
theorem Timed.of_eq {s t : State} (h : Timed s) (hreaders : t.readers = s.readers) (htrigger : t.trigger = s.trigger) : Timed t :=
  h.of_sameContexts ((SameContexts.refl s).of_readers hreaders) (htrigger ▸ h.stretch)

theorem Timed.withTrigger {s : State} (h : Timed s) {p : TriggerPort} (hp : StretchTimerLegal p) : Timed (s.withTrigger p) :=
  h.of_sameContexts (.refl s) hp

theorem Timed.modifyReader {s : State} (h : Timed s) {r : Reader} {f : ReaderContext → ReaderContext}
    (hlimit : (f (s.readers.get r)).settings.holdLimit ≤ 255) (hf : holdTimerLegal (f (s.readers.get r))) :
    Timed (s.modifyReader r f) := by
  refine ⟨fun q => ?_, fun q => ?_, h.stretch⟩ <;> rw [State.modifyReader_readers, PerReader.get_set] <;> split
  · exact hlimit
  · exact h.limits q
  · exact hf
  · exact h.holds q

/-- A context changes, but for its hold list, its hold timer and its settings. -/
theorem Timed.modifyReader_other {s : State} (h : Timed s) (r : Reader) {f : ReaderContext → ReaderContext}
    (hf : ∀ c, (f c).holdList = c.holdList ∧ (f c).holdTimer = c.holdTimer ∧ (f c).settings = c.settings) :
    Timed (s.modifyReader r f) := by
  obtain ⟨hlist, htimer, hsettings⟩ := hf (s.readers.get r)
  exact h.modifyReader (hsettings ▸ h.limits r) (holdTimerLegal_congr hlist htimer (h.holds r))

theorem timed_raiseFor (who : ReaderSet) (c : Cause) {s : State} (h : Timed s) : Timed (raiseFor who c s) :=
  h.of_sameContexts (sameContexts_raiseFor who c s) h.stretch

theorem timed_reevaluateBusy {s : State} (h : Timed s) : Timed (reevaluateBusy s) := h.of_eq (by simp) (by simp)

theorem timed_applyEpochReset {s : State} (h : Timed s) : Timed (applyEpochReset s) :=
  h.of_sameContexts (sameContexts_applyEpochReset s) h.stretch

theorem timed_requestEpochReset {s : State} (h : Timed s) : Timed (requestEpochReset s) := by
  unfold requestEpochReset
  split
  · exact h
  split
  · exact timed_reevaluateBusy (timed_applyEpochReset h)
  · exact timed_reevaluateBusy (h.of_eq rfl rfl)

/-! ### Entry and retirement (R12, R21, R22, R91) -/

/-- A decided frame leaves the port PASSIVE with no stretch, whatever it was before (R91). -/
theorem stretchTimerLegal_decideFrame (answer : Response) (s : State) : StretchTimerLegal (decideFrame answer s).trigger :=
  stretchTimerLegal_stopped (by simp [decideFrame]) rfl

theorem timed_decideFrame (answer : Response) {s : State} (h : Timed s) : Timed (decideFrame answer s) :=
  h.withTrigger (stretchTimerLegal_decideFrame answer s)

theorem timed_badFrame {s : State} (h : Timed s) : Timed (badFrame s) :=
  h.of_sameContexts (.refl s) (stretchTimerLegal_decideFrame _ _)

theorem timed_refuseFull {s : State} (h : Timed s) : Timed (refuseFull s) :=
  h.of_sameContexts (.refl s) (stretchTimerLegal_decideFrame _ _)

theorem timed_refuseEpoch {s : State} (h : Timed s) : Timed (refuseEpoch s) :=
  h.of_sameContexts (.refl s) (stretchTimerLegal_decideFrame _ _)

theorem timed_acceptFrame {s : State} (h : Timed s) : Timed (acceptFrame s) :=
  h.of_sameContexts (sameContexts_acceptFrame s) (stretchTimerLegal_decideFrame _ _)

/-- A stretch begins with STRETCH_LIMIT, which is not 0 where a frame may wait (R88, R91). -/
theorem timed_holdFrame {s : State} (hpos : s.settings.stretchLimit ≠ 0) (hlimit : s.settings.stretchLimit ≤ 255)
    (h : Timed s) : Timed (holdFrame s) :=
  h.of_sameContexts (.refl s) (stretchTimerLegal_running (v := s.settings.stretchLimit) rfl rfl (by omega))

theorem stretchTimerLegal_retryHeldFrame {s : State} (h : StretchTimerLegal s.trigger) :
    StretchTimerLegal (retryHeldFrame s).trigger := by
  unfold retryHeldFrame
  split
  · exact stretchTimerLegal_decideFrame _ _
  · exact h

theorem timed_retryHeldFrame {s : State} (h : Timed s) : Timed (retryHeldFrame s) :=
  h.of_sameContexts (sameContexts_retryHeldFrame s) (stretchTimerLegal_retryHeldFrame h.stretch)

theorem stretchTimerLegal_cascade {s : State} (h : StretchTimerLegal s.trigger) : StretchTimerLegal (cascade s).trigger := by
  rcases cascade_cases s with ⟨he, -⟩ | ⟨_, rest, -, -, -, he⟩
  · rwa [he]
  · rw [he, finishCascade, reevaluateBusy_trigger]
    refine stretchTimerLegal_retryHeldFrame ?_
    split <;> exact h

theorem timed_cascade {s : State} (h : Timed s) : Timed (cascade s) :=
  h.of_sameContexts (sameContexts_cascade s) (stretchTimerLegal_cascade h.stretch)

theorem timed_releaseEntry (r : Reader) (id : Identity) {s : State} (h : Timed s) : Timed (releaseEntry r id s) := by
  have htable : Timed (s.withTable (releaseIn r id s.table)) := h.of_eq rfl rfl
  exact timed_cascade (htable.modifyReader (h.limits r) (holdTimerLegal_removeEntry id (h.limits r) (h.holds r)))

theorem timed_massRelease (r : Reader) (x : ReaderState) {s : State} (h : Timed s) : Timed (massRelease r x s) := by
  have htable : Timed (s.withTable (massReleaseIn r s.table)) := h.of_eq rfl rfl
  exact htable.modifyReader (h.limits r) (holdTimerLegal_emptied rfl rfl)

/-! ### Expiries (R71, R72, R92) -/

/-- Between the release of the first entry and the load for the next one only the reader's own timer is out of step. -/
theorem timed_expireForce (r : Reader) {s : State} (h : Timed s) : Timed (expireForce r s) := by
  unfold expireForce
  split
  next hlist => exact h.modifyReader (h.limits r) (holdTimerLegal_emptied hlist rfl)
  next id rest hlist =>
    refine ⟨fun q => ?_, fun q => ?_, stretchTimerLegal_cascade h.stretch⟩
    · by_cases hq : q = r
      · subst hq; simpa [raise, countForced] using h.limits q
      · simpa [hq, raise, countForced] using h.limits q
    · by_cases hq : q = r
      · subst hq
        refine holdTimerLegal_timerForNext (h.limits q) (rest := rest) ?_ ?_ <;> simp [raise, countForced]
      · refine holdTimerLegal_congr ?_ ?_ (h.holds q) <;> simp [hq, raise, countForced]

theorem timed_expireLapse (r : Reader) {s : State} (h : Timed s) : Timed (expireLapse r s) := by
  unfold expireLapse
  refine timed_reevaluateBusy (timed_cascade (Timed.modifyReader_other ?_ r fun _ => ⟨rfl, rfl, rfl⟩))
  exact timed_massRelease r .lapsed (h.of_eq rfl rfl)

theorem timed_takeHoldExpiry (r : Reader) {s : State} (h : Timed s) : Timed (takeHoldExpiry r s) := by
  unfold takeHoldExpiry
  split
  · split
    · exact timed_expireForce r h
    · exact timed_expireLapse r h
  · exact h

theorem timed_takeStretchExpiry {s : State} (h : Timed s) : Timed (takeStretchExpiry s) := by
  unfold takeStretchExpiry
  split
  · exact timed_refuseFull h
  · exact h

theorem timed_takeMinimumHoldExpiry {s : State} (h : Timed s) : Timed (takeMinimumHoldExpiry s) := h.of_eq (by simp) (by simp)

/-! ### The timebase -/

theorem timed_takeDueEvents {s : State} (h : Timed s) : Timed (takeDueEvents s) :=
  timed_takeMinimumHoldExpiry <| timed_takeStretchExpiry <| timed_takeHoldExpiry .d <| timed_takeHoldExpiry .c <|
    timed_takeHoldExpiry .b <| timed_takeHoldExpiry .a h

theorem timed_withTimebase (x : Timebase) {s : State} (h : Timed s) : Timed (s.withTimebase x) := h.of_eq rfl rfl

theorem timed_completeSettle {s : State} (h : Timed s) : Timed (completeSettle s) :=
  timed_reevaluateBusy (timed_raiseFor _ .settled (timed_withTimebase _ h))

theorem timed_settleEdges (n : Nat) {s : State} (h : Timed s) : Timed (settleEdges n s) := by
  unfold settleEdges
  split
  · split
    · exact timed_completeSettle h
    · exact timed_withTimebase _ h
  · exact h

/-- A coarse pulse reaches the stretch timer, and no hold timer (R92). -/
theorem timed_coarsePulse {s : State} (h : Timed s) : Timed (coarsePulse s) := by
  unfold coarsePulse
  split
  · exact (h.withTrigger (stretchTimerLegal_stretchPulse h.stretch)).of_eq (by simp) (by simp)
  · exact h

theorem timed_holdPulses {s : State} (h : Timed s) : Timed (holdPulses s) := by
  refine ⟨fun q => ?_, fun q => ?_, h.stretch⟩ <;>
    simp only [holdPulses, State.withReaders_readers, PerReader.get_mapWith] <;> split
  · exact h.limits q
  · exact h.limits q
  · exact holdTimerLegal_holdPulse (h.holds q)
  · exact h.holds q

theorem timed_countTick {s : State} (h : Timed s) : Timed (countTick s) :=
  timed_settleEdges _ <| timed_holdPulses <| timed_coarsePulse <| timed_withTimebase _ <| timed_settleEdges _ <|
    timed_withTimebase _ h

theorem timed_takeTick {s : State} (h : Timed s) : Timed (takeTick s) := timed_countTick (timed_takeDueEvents h)

theorem timed_takeDueTick {s : State} (h : Timed s) : Timed (takeDueTick s) := by
  unfold takeDueTick
  split
  · exact timed_takeTick h
  · exact h

theorem timed_countRefclkEdge {s : State} (h : Timed s) : Timed (countRefclkEdge s) := by
  unfold countRefclkEdge
  split
  · exact timed_settleEdges 1 (timed_withTimebase _ (timed_takeDueTick h))
  · exact timed_withTimebase _ h

theorem timed_takeSettleComplete {s : State} (h : Timed s) : Timed (takeSettleComplete s) := by
  unfold takeSettleComplete
  dsimp only
  split
  · exact timed_completeSettle (timed_withTimebase _ (timed_takeDueTick h))
  · exact h

theorem timed_fallback {s : State} (h : Timed s) : Timed (fallback s) :=
  timed_reevaluateBusy ((timed_raiseFor _ .refLost (timed_withTimebase _ h)).of_eq rfl rfl)

theorem timed_loseRefclk {s : State} (h : Timed s) : Timed (loseRefclk s) := by
  unfold loseRefclk
  split
  · exact timed_fallback (timed_withTimebase _ (timed_takeDueTick h))
  · exact timed_withTimebase _ h

theorem timed_switchReference (x : ReferenceSelection) {s : State} (h : Timed s) : Timed (switchReference x s) :=
  timed_reevaluateBusy (timed_withTimebase _ (timed_takeDueTick h))

/-! ### Settings -/

/-- A HOLD_LIMIT that a SET accepts is in its range (R164, R165); a timer that runs already is left alone. -/
theorem timed_storeSetting {x : Setting} {v : Value16} (hmax : v.toNat ≤ (settingRange x).2) {s : State} (h : Timed s) :
    Timed (storeSetting x v s) := by
  cases x with
  | shared y => exact h.of_eq (by simp [storeSetting]) (by simp)
  | ofReader r y =>
    refine h.modifyReader (f := fun c => { c with settings := storeReaderSetting y v c.settings }) ?_
      (holdTimerLegal_congr rfl rfl (h.holds r))
    cases y with
    | holdLimit => exact hmax
    | holdClock | holdPolicy | holdDepth | attnMask => exact h.limits r

theorem timed_applySetting (x : Setting) {s : State} (h : Timed s) : Timed (applySetting x s) := by
  unfold applySetting
  split
  case h_5 r =>
    refine h.modifyReader ?_ (holdTimerLegal_rejudgePulse _ (h.holds r))
    unfold rejudgePulse
    split <;> exact h.limits r
  case h_6 => exact h
  all_goals exact timed_reevaluateBusy h

theorem timed_writeSetting {x : Setting} {v : Value16} (hmax : v.toNat ≤ (settingRange x).2) {s : State} (h : Timed s) :
    Timed (writeSetting x v s) := by
  have hrestart : Timed (if x = .shared .tickPrescale then restartDivider s else s) := by
    split
    · exact timed_withTimebase _ (timed_takeDueTick h)
    · exact h
  exact timed_applySetting x (timed_storeSetting hmax hrestart)

/-! ### The trigger bus -/

theorem timed_countTruncation {s : State} (h : Timed s) : Timed (countTruncation s) := by
  unfold countTruncation; split <;> exact h.of_eq rfl rfl

/-- Outside HOLDING no stretch runs, and a port that moves on to another frame state begins none. -/
theorem Timed.moveFrame {s : State} (h : Timed s) (hfree : s.trigger.state ≠ .holding) {p : TriggerPort}
    (hp : p.state ≠ .holding) (htimer : p.stretchTimer = s.trigger.stretchTimer) : Timed (s.withTrigger p) :=
  h.withTrigger (h.stretch.moves hfree hp htimer)

theorem timed_takeStartMark {s : State} (h : Timed s) : Timed (takeStartMark s) := by
  unfold takeStartMark
  split
  · exact h
  next hfree => exact (timed_countTruncation h).moveFrame (by simpa using hfree) (by simp) rfl

theorem timed_takeStopMark {s : State} (h : Timed s) : Timed (takeStopMark s) := by
  unfold takeStopMark
  split
  · exact h
  next hfree => exact (timed_countTruncation h).moveFrame (by simpa using hfree) (by simp) rfl

theorem timed_acknowledgeByte {next : FrameState} (hnext : next ≠ .holding) (f : Frame) {s : State}
    (hfree : s.trigger.state ≠ .holding) (h : Timed s) : Timed (acknowledgeByte next f s) := h.moveFrame hfree hnext rfl

theorem timed_judgeAddress (byte : Byte) {s : State} (hfree : s.trigger.state ≠ .holding) (h : Timed s) :
    Timed (judgeAddress byte s) := by
  unfold judgeAddress
  split
  · split
    · exact h.moveFrame hfree (by simp) rfl
    · exact timed_acknowledgeByte (by simp) _ hfree h
  · split
    · exact timed_acknowledgeByte (by simp) _ hfree h
    · exact timed_decideFrame _ h

theorem timed_judgeHeader (byte : Byte) {s : State} (hfree : s.trigger.state ≠ .holding) (h : Timed s) :
    Timed (judgeHeader byte s) := by
  unfold judgeHeader
  dsimp only
  split
  · exact timed_badFrame h
  · exact timed_acknowledgeByte (by simp) _ hfree h
  · exact timed_acknowledgeByte (by simp) _ hfree h

theorem timed_judgeClass (byte : Byte) {s : State} (hfree : s.trigger.state ≠ .holding) (h : Timed s) :
    Timed (judgeClass byte s) := by
  unfold judgeClass
  dsimp only
  split
  · exact timed_acknowledgeByte (by split <;> simp) _ hfree h
  · exact timed_badFrame h

theorem timed_takeTagByte (byte : Byte) {s : State} (hfree : s.trigger.state ≠ .holding) (h : Timed s) :
    Timed (takeTagByte byte s) := timed_acknowledgeByte (by split <;> simp) _ hfree h

theorem timed_judgeTriggerCheck (byte : Byte) {s : State} (hlimit : s.settings.stretchLimit ≤ 255) (h : Timed s) :
    Timed (judgeTriggerCheck byte s) := by
  unfold judgeTriggerCheck
  split
  · exact timed_badFrame h
  split
  · exact timed_refuseEpoch h
  split
  · exact timed_acceptFrame h
  split
  · exact timed_refuseFull h
  next hpos => exact timed_holdFrame hpos hlimit h

theorem timed_judgeEpochCheck (byte : Byte) {s : State} (h : Timed s) : Timed (judgeEpochCheck byte s) := by
  unfold judgeEpochCheck
  split
  · exact timed_badFrame h
  split
  · exact timed_decideFrame _ h
  · exact timed_decideFrame _ (timed_requestEpochReset h)

theorem timed_receiveByte (byte : Byte) {s : State} (hlimit : s.settings.stretchLimit ≤ 255) (h : Timed s) :
    Timed (receiveByte byte s) := by
  unfold receiveByte
  split
  · exact h.withTrigger (h.stretch.congr rfl rfl)
  · exact h.withTrigger (h.stretch.congr rfl rfl)
  next hstate => exact timed_judgeAddress byte (by simp [hstate]) h
  next hstate => exact timed_judgeHeader byte (by simp [hstate]) h
  next hstate => exact timed_judgeClass byte (by simp [hstate]) h
  next hstate => exact timed_takeTagByte byte (by simp [hstate]) h
  · split
    · exact timed_judgeTriggerCheck byte hlimit h
    · exact timed_judgeEpochCheck byte h
  · exact h
  · exact h

theorem timed_sendStatusByte (acknowledged : Bool) {s : State} (h : Timed s) : Timed (sendStatusByte acknowledged s) := by
  unfold sendStatusByte
  split
  · split
    · exact h.withTrigger (h.stretch.congr rfl rfl)
    · exact timed_decideFrame _ h
  · exact h

/-- EPOCH_RESET: a pending reset at an empty table (R122). -/
theorem timed_takeEpochReset {s : State} (h : Timed s) :
    Timed (if s.numbering.epochPending && s.table.isEmpty then reevaluateBusy (applyEpochReset s) else s) := by
  split
  · exact timed_reevaluateBusy (timed_applyEpochReset h)
  · exact h

/-! ### The readers' commands -/

theorem timed_answerCauses (r : Reader) {s : State} (h : Timed s) : Timed (answerCauses r s).after :=
  h.modifyReader_other r (f := fun c => { c with causes := 0 }) fun _ => ⟨rfl, rfl, rfl⟩

theorem timed_answerTake (r : Reader) {s : State} (h : Timed s) : Timed (answerTake r s).after := by
  unfold answerTake
  dsimp only
  split
  · exact h
  split
  · exact h
  split
  · exact h
  next x _ =>
    have htable : Timed (s.withTable (modifyFirst (availableTo r) (takeRecord r) s.table)) := h.of_eq rfl rfl
    have hadded := htable.modifyReader (r := r) (f := addEntry x.identity) (h.limits r)
      (holdTimerLegal_addEntry x.identity (h.limits r) (h.holds r))
    exact hadded.of_eq rfl rfl

theorem timed_answerRelease (r : Reader) (id : Identity) {s : State} (h : Timed s) : Timed (answerRelease r id s).after := by
  unfold answerRelease
  dsimp only
  split
  · exact h
  split
  · exact timed_releaseEntry r id h
  · exact h

theorem timed_answerReleaseOldest (r : Reader) {s : State} (h : Timed s) : Timed (answerReleaseOldest r s).after := by
  unfold answerReleaseOldest
  dsimp only
  split
  · exact h
  split
  · exact h
  · exact timed_releaseEntry r _ h

theorem timed_answerAttach (r : Reader) {s : State} (h : Timed s) : Timed (answerAttach r s).after := by
  unfold answerAttach
  split
  · exact timed_reevaluateBusy (h.modifyReader_other r fun _ => ⟨rfl, rfl, rfl⟩)
  · exact h

theorem timed_answerDetach (r : Reader) {s : State} (h : Timed s) : Timed (answerDetach r s).after := by
  unfold answerDetach
  split
  · exact h
  · exact timed_reevaluateBusy (timed_cascade (timed_massRelease r .detached h))

theorem timed_answerResume (r : Reader) {s : State} (h : Timed s) : Timed (answerResume r s).after := by
  unfold answerResume
  split
  · exact timed_reevaluateBusy (h.modifyReader_other r fun _ => ⟨rfl, rfl, rfl⟩)
  · exact h

theorem timed_answerDeclareBusy (r : Reader) (value : Byte) {s : State} (h : Timed s) :
    Timed (answerDeclareBusy r value s).after := by
  unfold answerDeclareBusy
  dsimp only
  split
  · split
    · exact h
    · exact timed_reevaluateBusy (h.modifyReader_other r fun _ => ⟨rfl, rfl, rfl⟩)
  · exact h

theorem timed_answerReaderReset (r : Reader) {s : State} (h : Timed s) : Timed (answerReaderReset r s).after := by
  have hreleased := timed_cascade (timed_massRelease r .detached h)
  have hcleared := hreleased.modifyReader_other r (f := fun c => { c with causes := 0, declaredBusy := false, missed := 0 })
    fun _ => ⟨rfl, rfl, rfl⟩
  refine timed_reevaluateBusy ?_
  rw [freeTokenOf_eq]
  exact hcleared.of_eq rfl rfl

/-! ### The commands that act on the hub -/

theorem timed_answerClaim (r : Reader) {s : State} (h : Timed s) : Timed (answerClaim r s).after := by
  unfold answerClaim
  split
  · exact h.of_eq rfl rfl
  split
  · exact h
  split
  · exact h
  next holder _ _ _ =>
    have hraised : Timed (raise holder .tokenLost s) := h.modifyReader_other holder fun _ => ⟨rfl, rfl, rfl⟩
    exact hraised.of_eq rfl rfl

theorem timed_answerYield (r : Reader) {s : State} (h : Timed s) : Timed (answerYield r s).after := by
  unfold answerYield; split <;> exact h.of_eq rfl rfl

theorem timed_answerSet (r : Reader) (id : Byte) (v : Value16) {s : State} (h : Timed s) : Timed (answerSet r id v s).after := by
  unfold answerSet
  split
  · exact h
  split
  · exact h
  next x _ =>
  split
  next haccepts =>
    obtain ⟨-, hmax, -⟩ := (settingAccepts_iff x v s).mp haccepts
    exact timed_writeSetting hmax h
  next => exact h

theorem timed_answerGet (id : Byte) {s : State} (h : Timed s) : Timed (answerGet id s).after := by
  unfold answerGet; split <;> exact h

theorem timed_answerRuleWrite (r : Reader) (index enable pattern mask sets interval : Byte) {s : State} (h : Timed s) :
    Timed (answerRuleWrite r index enable pattern mask sets interval s).after := by
  unfold answerRuleWrite; (repeat' split) <;> exact h.of_eq rfl rfl

theorem timed_answerRuleRead (index : Byte) {s : State} (h : Timed s) : Timed (answerRuleRead index s).after := by
  unfold answerRuleRead; split <;> exact h

theorem timed_answerEpoch (r : Reader) {s : State} (h : Timed s) : Timed (answerEpoch r s).after := by
  unfold answerEpoch
  split
  · exact h
  split
  · exact h
  split
  · exact timed_reevaluateBusy (timed_applyEpochReset h)
  · exact h

/-- A clear stops every hold timer with its list (R24, R69). -/
theorem timed_hubClear {s : State} (h : Timed s) : Timed (hubClear s) := by
  have hempty : Timed (emptyHub s) := by
    refine ⟨fun q => by simpa [emptyHub] using h.limits q, fun q => ?_, h.stretch.congr rfl rfl⟩
    exact holdTimerLegal_emptied (by simp [emptyHub]) (by simp [emptyHub])
  have hreset : Timed (if (emptyHub s).numbering.epochPending then applyEpochReset (emptyHub s) else emptyHub s) := by
    split
    · exact timed_applyEpochReset hempty
    · exact hempty
  exact timed_retryHeldFrame (timed_reevaluateBusy (timed_raiseFor _ .cleared hreset))

theorem timed_answerClear (r : Reader) {s : State} (h : Timed s) : Timed (answerClear r s).after := by
  unfold answerClear
  split
  · exact timed_hubClear h
  · exact h

theorem timed_answerReference (r : Reader) (value : Byte) {s : State} (h : Timed s) :
    Timed (answerReference r value s).after := by
  unfold answerReference
  split
  · exact h
  split
  · exact h
  split
  · exact h
  split
  · exact h
  · exact timed_switchReference _ h

theorem timed_answerCounter (r : Reader) (index form : Byte) {s : State} (h : Timed s) :
    Timed (answerCounter r index form s).after := by
  unfold answerCounter; (repeat' split) <;> exact h

theorem timed_answerClearCounters (r : Reader) {s : State} (h : Timed s) : Timed (answerClearCounters r s).after := by
  unfold answerClearCounters; split <;> exact h.of_eq rfl rfl

/-! ### Every step -/

theorem timed_whileRunning {f : State → State} {s : State} (hf : Timed s → Timed (f s)) (h : Timed s) :
    Timed (whileRunning f s) := by
  unfold whileRunning
  split
  · exact h
  · exact hf h

/-- A reader command does to the timers what its answer does. -/
theorem timed_command {act : State → Answer} {s : State} (hact : Timed s → Timed (act s).after) (r : Reader) (code : Byte)
    (args : List Byte) (length : Nat) (h : Timed s) : Timed (command r code args length act s) := by
  unfold command
  split
  · exact (hact h).of_eq rfl rfl
  · exact h

theorem timed_setCommand (r : Reader) (id : Byte) (v : Value16) {s : State} (h : Timed s) : Timed (setCommand r id v s) :=
  timed_command (timed_answerSet r id v) r _ _ _ h

theorem exec_timed (c : Instr) {s : State} (hlimit : s.settings.stretchLimit ≤ 255) (h : Timed s) :
    ∃ t, exec c s = .next t ∧ Timed t := by
  have byteEvent (byte : Byte) : Timed (whileRunning (receiveByte byte) s) :=
    timed_whileRunning (timed_receiveByte byte hlimit) h
  cases c with
  | deviceReset =>
    exact ⟨_, rfl, timed_of_legal (settingsLegal_inReset _ _) timersLegal_reset⟩
  | resetRelease => exact ⟨_, rfl, by split; exacts [h.of_eq (by simp) (by simp), h]⟩
  | tick => exact ⟨_, rfl, timed_whileRunning timed_takeTick h⟩
  | holdExpiry r => exact ⟨_, rfl, timed_whileRunning (timed_takeHoldExpiry r) h⟩
  | minimumHoldExpiry => exact ⟨_, rfl, timed_whileRunning timed_takeMinimumHoldExpiry h⟩
  | stretchExpiry => exact ⟨_, rfl, timed_whileRunning timed_takeStretchExpiry h⟩
  | refclkEdge => exact ⟨_, rfl, timed_whileRunning timed_countRefclkEdge h⟩
  | refclkAbsent => exact ⟨_, rfl, timed_whileRunning timed_loseRefclk h⟩
  | settleComplete => exact ⟨_, rfl, timed_whileRunning timed_takeSettleComplete h⟩
  | startMark => exact ⟨_, rfl, timed_whileRunning timed_takeStartMark h⟩
  | stopMark => exact ⟨_, rfl, timed_whileRunning timed_takeStopMark h⟩
  | addressByte byte => exact ⟨_, rfl, byteEvent byte⟩
  | headerByte byte => exact ⟨_, rfl, byteEvent byte⟩
  | classByte byte => exact ⟨_, rfl, byteEvent byte⟩
  | tagByte byte => exact ⟨_, rfl, byteEvent byte⟩
  | triggerCheckByte byte => exact ⟨_, rfl, byteEvent byte⟩
  | holdingEntry => exact ⟨_, rfl, timed_whileRunning timed_retryHeldFrame h⟩
  | epochCheckByte byte => exact ⟨_, rfl, byteEvent byte⟩
  | epochReset => exact ⟨_, rfl, timed_whileRunning timed_takeEpochReset h⟩
  | statusReadByte acknowledged => exact ⟨_, rfl, timed_whileRunning (timed_sendStatusByte acknowledged) h⟩
  | transactionOpen r => exact ⟨_, rfl, by split <;> exact h.of_eq rfl rfl⟩
  | transactionEnd r => exact ⟨_, rfl, by split <;> exact h.of_eq rfl rfl⟩
  | badCommand r code => exact ⟨_, rfl, by split; exacts [h, timed_command id r _ _ _ h]⟩
  | status r => exact ⟨_, rfl, timed_command id r _ _ _ h⟩
  | time r => exact ⟨_, rfl, timed_command id r _ _ _ h⟩
  | causes r => exact ⟨_, rfl, timed_command (timed_answerCauses r) r _ _ _ h⟩
  | take r => exact ⟨_, rfl, timed_command (timed_answerTake r) r _ _ _ h⟩
  | release r epoch number => exact ⟨_, rfl, timed_command (timed_answerRelease r _) r _ _ _ h⟩
  | releaseOldest r => exact ⟨_, rfl, timed_command (timed_answerReleaseOldest r) r _ _ _ h⟩
  | held r => exact ⟨_, rfl, timed_command id r _ _ _ h⟩
  | attach r => exact ⟨_, rfl, timed_command (timed_answerAttach r) r _ _ _ h⟩
  | detach r => exact ⟨_, rfl, timed_command (timed_answerDetach r) r _ _ _ h⟩
  | resume r => exact ⟨_, rfl, timed_command (timed_answerResume r) r _ _ _ h⟩
  | declareBusy r value => exact ⟨_, rfl, timed_command (timed_answerDeclareBusy r value) r _ _ _ h⟩
  | readerReset r => exact ⟨_, rfl, timed_command (timed_answerReaderReset r) r _ _ _ h⟩
  | claim r => exact ⟨_, rfl, timed_command (timed_answerClaim r) r _ _ _ h⟩
  | yield r => exact ⟨_, rfl, timed_command (timed_answerYield r) r _ _ _ h⟩
  | set r id value => exact ⟨_, rfl, timed_setCommand r _ value h⟩
  | setBusyHigh r value => exact ⟨_, rfl, timed_setCommand r _ value h⟩
  | setBusyLow r value => exact ⟨_, rfl, timed_setCommand r _ value h⟩
  | setForceBusy r value => exact ⟨_, rfl, timed_setCommand r _ value h⟩
  | setSettleBusy r value => exact ⟨_, rfl, timed_setCommand r _ value h⟩
  | setTickPrescale r value => exact ⟨_, rfl, timed_setCommand r _ value h⟩
  | setRunNumber r value => exact ⟨_, rfl, timed_setCommand r _ value h⟩
  | setAttnMask r target value => exact ⟨_, rfl, timed_setCommand r _ value h⟩
  | get r id => exact ⟨_, rfl, timed_command (timed_answerGet id) r _ _ _ h⟩
  | ruleWrite r index enable pattern mask sets interval =>
    exact ⟨_, rfl, timed_command (timed_answerRuleWrite r index enable pattern mask sets interval) r _ _ _ h⟩
  | ruleRead r index => exact ⟨_, rfl, timed_command (timed_answerRuleRead index) r _ _ _ h⟩
  | epoch r => exact ⟨_, rfl, timed_command (timed_answerEpoch r) r _ _ _ h⟩
  | clear r => exact ⟨_, rfl, timed_command (timed_answerClear r) r _ _ _ h⟩
  | reference r value => exact ⟨_, rfl, timed_command (timed_answerReference r value) r _ _ _ h⟩
  | counter r index form => exact ⟨_, rfl, timed_command (timed_answerCounter r index form) r _ _ _ h⟩
  | clearCounters r => exact ⟨_, rfl, timed_command (timed_answerClearCounters r) r _ _ _ h⟩

/-- Settles O56: a byte time leaves the timers alone, and every command keeps them in step with hold lists and frame state. -/
theorem stepKeepsTimersLegal : Obligations.StepKeepsTimersLegal := by
  intro s t hsettings htimers hstep
  have h : Timed s := timed_of_legal hsettings htimers
  unfold step at hstep
  split at hstep
  next =>
    obtain rfl : byteTime s = t := by injection hstep
    exact (h.of_eq rfl rfl).timersLegal
  next c rest _ =>
    obtain ⟨⟨-, hlimit, -⟩, -⟩ := hsettings
    have hqueue : Timed (s.withPending rest) := h.of_eq rfl rfl
    obtain ⟨u, hu, htimed⟩ := exec_timed c (s := s.withPending rest) hlimit hqueue
    obtain rfl : u = t := by rw [hu] at hstep; injection hstep
    exact htimed.timersLegal

end Sys2Proof.Machine
end

section
/-! SUPPORT. A tick in the words of the statements (R66, R68, R92, R101, R102, R137): the pulses that wait before it, the edges until
it, and the pulses of the new count, block by block. -/

namespace Sys2Proof.Machine

/-- A state is its blocks. -/
theorem State.eq_of_blocks {s t : State}
    (houtside : s.pending = t.pending ∧ s.rstLow = t.rstLow ∧ s.ports = t.ports)
    (hrecords : s.table = t.table ∧ s.rules = t.rules ∧ s.numbering = t.numbering)
    (hsettings : s.settings = t.settings ∧ s.token = t.token) (hreaders : s.readers = t.readers)
    (htrigger : s.trigger = t.trigger) (htimebase : s.timebase = t.timebase) (hbusy : s.busy = t.busy)
    (hcounters : s.counters = t.counters) : s = t := by
  cases s
  cases t
  simp_all

/-! ### The pulses that wait (R68, R92, R136) -/

theorem exec_tick_running {s : State} (h : s.rstLow = false) : exec .tick s = .next (takeTick s) :=
  congrArg Host.Outcome.next (whileRunning_high takeTick h)

theorem exec_holdExpiry_running (r : Reader) {s : State} (h : s.rstLow = false) :
    exec (.holdExpiry r) s = .next (takeHoldExpiry r s) := congrArg Host.Outcome.next (whileRunning_high (takeHoldExpiry r) h)

theorem exec_stretchExpiry_running {s : State} (h : s.rstLow = false) : exec .stretchExpiry s = .next (takeStretchExpiry s) :=
  congrArg Host.Outcome.next (whileRunning_high takeStretchExpiry h)

theorem exec_minimumHoldExpiry_running {s : State} (h : s.rstLow = false) :
    exec .minimumHoldExpiry s = .next (takeMinimumHoldExpiry s) :=
  congrArg Host.Outcome.next (whileRunning_high takeMinimumHoldExpiry h)

theorem afterCommands_cons {c : Instr} {s t : State} (h : exec c s = .next t) (l : List Instr) :
    afterCommands (c :: l) s = afterCommands l t := by
  simp [afterCommands, h]

/-- The expiry commands, one after another, take the pulses that a tick would take first (log entry 4). -/
theorem afterCommands_expiries {s : State} (h : s.rstLow = false) :
    afterCommands [.holdExpiry .a, .holdExpiry .b, .holdExpiry .c, .holdExpiry .d, .stretchExpiry, .minimumHoldExpiry] s =
      takeDueEvents s := by
  rw [afterCommands_cons (exec_holdExpiry_running .a h), afterCommands_cons (exec_holdExpiry_running .b (by simp [h])),
    afterCommands_cons (exec_holdExpiry_running .c (by simp [h])), afterCommands_cons (exec_holdExpiry_running .d (by simp [h])),
    afterCommands_cons (exec_stretchExpiry_running (by simp [h])),
    afterCommands_cons (exec_minimumHoldExpiry_running (by simp [h]))]
  rfl

theorem timerForNext_ne_pulseDue (limit : Nat) (l : List Identity) : timerForNext limit l ≠ .pulseDue := by
  cases l with
  | nil => simp [timerForNext]
  | cons id l => simp only [timerForNext, loadHoldTimer]; split <;> simp

/-- An expiry takes the pulse at its own timer. -/
theorem takeHoldExpiry_holdTimer (r : Reader) (s : State) : ((takeHoldExpiry r s).readers.get r).holdTimer ≠ .pulseDue := by
  unfold takeHoldExpiry
  split
  next =>
    split
    · unfold expireForce
      split
      · simp
      · simpa using timerForNext_ne_pulseDue _ _
    · simp [expireLapse, raise, massRelease, withdraw]
  next hnot => exact hnot

/-- An expiry leaves the other readers' timers alone. -/
theorem takeHoldExpiry_holdTimer_other {r q : Reader} (hq : q ≠ r) (s : State) :
    ((takeHoldExpiry r s).readers.get q).holdTimer = (s.readers.get q).holdTimer := by
  unfold takeHoldExpiry
  split
  · split
    · unfold expireForce
      split <;> simp [hq, raise, countForced]
    · simp [hq, expireLapse, raise, massRelease, countForced]
  · rfl

theorem takeStretchExpiry_not_due (s : State) :
    ¬((takeStretchExpiry s).trigger.state = .holding ∧ (takeStretchExpiry s).trigger.stretchTimer = .pulseDue) := by
  unfold takeStretchExpiry
  split
  · simp [refuseFull, decideFrame]
  next hnot => exact hnot

theorem takeMinimumHoldExpiry_not_due (s : State) : (takeMinimumHoldExpiry s).busy.minimumHold ≠ .pulseDue := by
  unfold takeMinimumHoldExpiry
  split
  · unfold elapseMinimumHold
    dsimp only
    split <;> simp
  next hnot => exact hnot

/-- With every expiry taken, no pulse waits. -/
theorem nothingDue_takeDueEvents (s : State) : nothingDue (takeDueEvents s) := by
  refine ⟨fun r => ?_, ?_, takeMinimumHoldExpiry_not_due _⟩
  · simp only [takeDueEvents, takeMinimumHoldExpiry_readers, takeStretchExpiry_readers]
    cases r with
    | d => exact takeHoldExpiry_holdTimer .d _
    | c =>
      rw [takeHoldExpiry_holdTimer_other (by decide)]
      exact takeHoldExpiry_holdTimer .c _
    | b =>
      rw [takeHoldExpiry_holdTimer_other (by decide), takeHoldExpiry_holdTimer_other (by decide)]
      exact takeHoldExpiry_holdTimer .b _
    | a =>
      rw [takeHoldExpiry_holdTimer_other (by decide), takeHoldExpiry_holdTimer_other (by decide),
        takeHoldExpiry_holdTimer_other (by decide)]
      exact takeHoldExpiry_holdTimer .a _
  · simpa [takeDueEvents] using takeStretchExpiry_not_due _

/-- Where no pulse waits, the expiries that a tick takes first change nothing. -/
theorem takeDueEvents_of_nothingDue {s : State} (h : nothingDue s) : takeDueEvents s = s := by
  obtain ⟨hholds, hstretch, hminimum⟩ := h
  have hstays : takeStretchExpiry s = s := if_neg hstretch
  have hidle : takeMinimumHoldExpiry s = s := if_neg hminimum
  simp only [takeDueEvents, takeHoldExpiry_not_due (hholds _), hstays, hidle]

/-! ### The edges of the reference (R104, R105) -/

theorem completeSettle_eq (s : State) : completeSettle s = settleDone s := by
  unfold completeSettle
  rw [raiseFor_eq_causesFor ReaderSet.get_all]
  rfl

theorem settleEdges_eq (n : Nat) (s : State) : settleEdges n s = settledBy n s := by
  unfold settleEdges settledBy
  rw [completeSettle_eq]
  rfl

/-! ### The pulses of the new count (R66, R102) -/

theorem lowBitsZero_coarse (count : BitVec 48) : lowBitsZero 8 count = true ↔ count.toNat % 256 = 0 := by simp [lowBitsZero]

/-- The hold clock of a reader has a period of 16 times 4 to the power HOLD_CLOCK (R66). -/
theorem lowBitsZero_holdClock (clock : Nat) (count : BitVec 48) :
    lowBitsZero (4 + 2 * clock) count = true ↔ count.toNat % (16 * 4 ^ clock) = 0 := by
  have hperiod : 2 ^ (4 + 2 * clock) = 16 * 4 ^ clock := by rw [pow_add, pow_mul]; rfl
  simp [lowBitsZero, hperiod]

theorem holdPulses_get (s : State) (q : Reader) :
    (holdPulses s).readers.get q =
      if s.timebase.count.toNat % (16 * 4 ^ (s.readers.get q).settings.holdClock) = 0
      then { s.readers.get q with holdTimer := holdPulse (s.readers.get q).holdTimer } else s.readers.get q := by
  simp [holdPulses, lowBitsZero_holdClock]

theorem coarsePulse_on {s : State} (h : s.timebase.count.toNat % 256 = 0) :
    coarsePulse s = busyPulse (s.withTrigger (stretchPulse s.trigger)) := if_pos ((lowBitsZero_coarse _).mpr h)

theorem coarsePulse_off {s : State} (h : s.timebase.count.toNat % 256 ≠ 0) : coarsePulse s = s :=
  if_neg fun hlow => h ((lowBitsZero_coarse _).mp hlow)

/-- BUSY_TICKS at step 1 of a coarse pulse (R137). -/
theorem countBusyTick_eq (s : State) :
    countBusyTick s = s.withCounters { s.counters with
      busyTicks := if s.busy.output = true then s.counters.busyTicks + 1 else s.counters.busyTicks } := by
  unfold countBusyTick
  split <;> rfl

/-- The stretch timer counts in HOLDING alone (R92). -/
theorem stretchPulse_eq (p : TriggerPort) :
    stretchPulse p = { p with
      stretchTimer :=
        match p.stretchTimer with
        | .running v => if p.state = .holding then (if v ≤ 1 then .pulseDue else .running (v - 1)) else .running v
        | other => other } := by
  cases p with
  | mk state _ _ _ _ _ timer =>
    cases timer with
    | stopped | pulseDue => cases state <;> rfl
    | running v => cases state <;> rfl

theorem coarsePulse_trigger (s : State) :
    (coarsePulse s).trigger = { s.trigger with
      stretchTimer :=
        match s.trigger.stretchTimer with
        | .running v =>
          if s.timebase.count.toNat % 256 = 0 ∧ s.trigger.state = .holding then
            (if v ≤ 1 then .pulseDue else .running (v - 1))
          else .running v
        | other => other } := by
  by_cases hcoarse : s.timebase.count.toNat % 256 = 0
  · simp [coarsePulse_on hcoarse, stretchPulse_eq, hcoarse]
  · rw [coarsePulse_off hcoarse]
    cases s.trigger with
    | mk _ _ _ _ _ _ timer => cases timer <;> simp [hcoarse]

/-- The minimum-hold timer counts down, and a pulse that would bring it to 0 waits for its expiry (R137; log entry 4). -/
theorem coarsePulse_busy (s : State) :
    (coarsePulse s).busy = { s.busy with
      minimumHold :=
        match s.busy.minimumHold with
        | .running v =>
          if s.timebase.count.toNat % 256 = 0 then (if v ≤ 1 then .pulseDue else .running (v - 1)) else .running v
        | other => other } := by
  by_cases hcoarse : s.timebase.count.toNat % 256 = 0
  · rw [coarsePulse_on hcoarse]
    unfold busyPulse
    cases hbusy : s.busy with
    | mk _ _ held =>
      cases held with
      | running v => by_cases hlast : v ≤ 1 <;> simp [hbusy, hcoarse, hlast]
      | idle | pulseDue | elapsed => simp [hbusy]
  · rw [coarsePulse_off hcoarse]
    cases s.busy with
    | mk _ _ held => cases held <;> simp [hcoarse]

/-- BUSY_TICKS counts the coarse pulses under BUSY, but for one that waits for its expiry (R137; log entry 4). -/
theorem coarsePulse_counters (s : State) :
    (coarsePulse s).counters = { s.counters with
      busyTicks :=
        if s.timebase.count.toNat % 256 = 0 ∧ s.busy.output = true ∧
            (match s.busy.minimumHold with
              | .running v => decide (v ≤ 1)
              | _ => false) = false
        then s.counters.busyTicks + 1 else s.counters.busyTicks } := by
  by_cases hcoarse : s.timebase.count.toNat % 256 = 0
  · rw [coarsePulse_on hcoarse]
    unfold busyPulse
    cases hheld : s.busy.minimumHold with
    | running v =>
      by_cases hlast : v ≤ 1
      · simp [hheld, hlast]
      · cases hout : s.busy.output <;> simp [hheld, hlast, hcoarse, hout, countBusyTick_eq]
    | idle | pulseDue | elapsed => cases hout : s.busy.output <;> simp [hheld, hcoarse, hout, countBusyTick_eq]
  · rw [coarsePulse_off hcoarse]
    simp [hcoarse]

/-- Settles O6: with no pulse waiting a tick is `countTick`, whose pulses reach each block on their own; the pulses that wait are taken
first, as their commands would take them. -/
theorem tickTakesItsPulses : Obligations.TickTakesItsPulses := by
  constructor
  · intro s hhigh hnone edges u n coarse left
    have hu : settleEdges (edgesToTick s - 1) (s.withTimebase (monitorEdges (edgesToTick s) s.timebase)) = u :=
      settleEdges_eq _ _
    have hn : u.timebase.count + 1 = n := by simp [← hu, n]
    have htick : takeTick s =
        settledBy (min edges 1) (holdPulses (coarsePulse (u.withTimebase (advanceCount u.timebase)))) := by
      rw [takeTick, takeDueEvents_of_nothingDue hnone, countTick, hu, settleEdges_eq]
      rfl
    have hcount : (u.withTimebase (advanceCount u.timebase)).timebase.count = n := hn
    rw [exec_tick_running hhigh, htick]
    refine congrArg (fun w => Host.Outcome.next (settledBy (min edges 1) w)) ?_
    refine State.eq_of_blocks ?_ ?_ ?_ ?_ ?_ ?_ ?_ ?_
    · simp
    · simp
    · simp
    · refine PerReader.ext_get fun q => ?_
      rw [holdPulses_get, coarsePulse_timebase, coarsePulse_readers, hcount]
      simp only [State.withTimebase_readers, PerReader.get_mapWith]
      cases (u.readers.get q).holdTimer <;> rfl
    · rw [holdPulses_trigger, coarsePulse_trigger, hcount]
      rfl
    · rw [holdPulses_timebase, coarsePulse_timebase, State.withTimebase_timebase, advanceCount, hn]
    · rw [holdPulses_busy, coarsePulse_busy, hcount]
      rfl
    · rw [holdPulses_counters, coarsePulse_counters, hcount]
      rfl
  · intro s hhigh t
    have ht : t = takeDueEvents s := afterCommands_expiries hhigh
    have hdue : nothingDue t := ht ▸ nothingDue_takeDueEvents s
    have hrunning : t.rstLow = false := by simp [ht, hhigh]
    refine ⟨hrunning, hdue, ?_⟩
    rw [exec_tick_running hhigh, exec_tick_running hrunning, takeTick, takeTick, takeDueEvents_of_nothingDue hdue, ht]

end Sys2Proof.Machine
end

section
/-! SUPPORT. SET in the words of the statements (R162, R165, R166): its checks, the stored value as GET returns it, and what the write
does to each block. -/

namespace Sys2Proof.Machine

/-! ### The checks, in their order (R151, R162, R165) -/

theorem settingId_attnMask (r : Reader) : settingId (.ofReader r .attnMask) = attnMaskId r := by
  cases r <;> rfl

/-- The caller passes the token check of a SET: it holds the token, or writes its own ATTN_MASK (R162). -/
def setAdmitted (r : Reader) (id : Byte) (s : State) : Prop := s.token = some r ∨ id = attnMaskId r

theorem answerSet_notHolder {r : Reader} {id : Byte} {s : State} (h : ¬setAdmitted r id s) (v : Value16) :
    answerSet r id v s = refuse .notHolder s := by
  obtain ⟨htoken, hid⟩ := not_or.mp h
  simp [answerSet, holdsToken, settingId_attnMask, htoken, hid]

theorem answerSet_admitted {r : Reader} {id : Byte} {s : State} (h : setAdmitted r id s) (v : Value16) :
    answerSet r id v s = match settingOfId id with
      | none => refuse .badIndex s
      | some x => if settingAccepts x v s then perform [] (writeSetting x v s) else refuse .badValue s := by
  refine if_neg ?_
  obtain h | h := h <;> simp [holdsToken, settingId_attnMask, h]

theorem answerSet_badIndex {r : Reader} {id : Byte} {s : State} (h : setAdmitted r id s) (hunknown : settingOfId id = none)
    (v : Value16) : answerSet r id v s = refuse .badIndex s := by
  rw [answerSet_admitted h, hunknown]

theorem answerSet_known {r : Reader} {id : Byte} {s : State} {x : Setting} (h : setAdmitted r id s)
    (hknown : settingOfId id = some x) (v : Value16) :
    answerSet r id v s = if settingAccepts x v s then perform [] (writeSetting x v s) else refuse .badValue s := by
  rw [answerSet_admitted h, hknown]

/-- Each mark is checked against the other as it stands (R165). -/
theorem marksStayOrdered_iff (x : Setting) (v : Value16) (s : State) :
    marksStayOrdered x v s = true ↔
      (x = .shared .busyHigh → s.settings.busyLow < v.toNat) ∧ (x = .shared .busyLow → v.toNat < s.settings.busyHigh) := by
  cases x with
  | ofReader r y => simp [marksStayOrdered]
  | shared y => cases y <;> simp [marksStayOrdered]

theorem exec_set {r : Reader} {s : State} (htakes : takesCommand r s) (id : Byte) (v : Value16) :
    exec (.set r id v) s = .next (answered r 0x32 [id, v.extractLsb' 8 8, v.extractLsb' 0 8] (answerSet r id v s).status
      (replyBytes 0 (answerSet r id v s)) (answerSet r id v s).after) := by
  have hexec : exec (.set r id v) s = .next (command r 0x32 (id :: bigEndian 2 v.toNat) 0 (answerSet r id v) s) := rfl
  rw [hexec, bigEndian_two, command_answered (keeps_set r id v) htakes 0x32 _ rfl]

/-! ### The stored value (R163, R164, R167) -/

theorem setWidth_setWidth_of_lt {w : Nat} {v : Value16} (h : v.toNat < 2 ^ w) : (v.setWidth w).setWidth 16 = v := by
  apply BitVec.eq_of_toNat_eq
  simpa [Nat.mod_eq_of_lt h] using v.isLt

theorem ofNat_toNat_value (v : Value16) : BitVec.ofNat 16 v.toNat = v := by simp

/-- A value of at most 1 is 0 or 1. -/
theorem zero_or_one_of_le {v : Value16} (h : v.toNat ≤ 1) : v = 0 ∨ v = 1 := by bv_omega

theorem flagValue_of_le {v : Value16} (h : v.toNat ≤ 1) : flagValue (v == 1) = v := by
  obtain rfl | rfl := zero_or_one_of_le h <;> rfl

theorem sharedSettingValue_storeShared {x : SharedSetting} {v : Value16} (hmax : v.toNat ≤ (settingRange (.shared x)).2)
    (s : State) : sharedSettingValue x (storeShared x v s) = v := by
  cases x with
  | busAddress => exact setWidth_setWidth_of_lt (Nat.lt_of_le_of_lt hmax (by decide))
  | defaultSet =>
    simp only [sharedSettingValue, storeShared, State.withSettings_settings, ReaderSet.toNibble_ofNibble]
    exact setWidth_setWidth_of_lt (Nat.lt_of_le_of_lt hmax (by decide))
  | broadcast | forceBusy | settleBusy | countersOpen => exact flagValue_of_le hmax
  | epochSource => obtain rfl | rfl := zero_or_one_of_le hmax <;> rfl
  | runNumber => rfl
  | stretchLimit | busyHigh | busyLow | busyMinimum | runClass | tickPrescale | settleLength =>
    exact ofNat_toNat_value v

theorem readerSettingValue_storeReaderSetting {r : Reader} {x : ReaderSetting} {v : Value16}
    (hmax : v.toNat ≤ (settingRange (.ofReader r x)).2) (c : ReaderSettings) :
    readerSettingValue x (storeReaderSetting x v c) = v := by
  cases x with
  | holdPolicy => obtain rfl | rfl := zero_or_one_of_le hmax <;> rfl
  | attnMask => exact setWidth_setWidth_of_lt (Nat.lt_of_le_of_lt (m := 0x1FF) hmax (by decide))
  | holdLimit | holdClock | holdDepth => exact ofNat_toNat_value v

/-- A value in its range is the one that GET returns. -/
theorem settingValue_storeSetting {x : Setting} {v : Value16} (hmax : v.toNat ≤ (settingRange x).2) (s : State) :
    settingValue x (storeSetting x v s) = v := by
  cases x with
  | shared y => exact sharedSettingValue_storeShared hmax s
  | ofReader r y => simpa [settingValue, storeSetting] using readerSettingValue_storeReaderSetting hmax _

theorem sharedSettingValue_storeShared_other {x y : SharedSetting} (h : y ≠ x) (v : Value16) (s : State) :
    sharedSettingValue y (storeShared x v s) = sharedSettingValue y s := by
  cases x <;> cases y <;> first | rfl | exact absurd rfl h

theorem readerSettingValue_storeReaderSetting_other {x y : ReaderSetting} (h : y ≠ x) (v : Value16) (c : ReaderSettings) :
    readerSettingValue y (storeReaderSetting x v c) = readerSettingValue y c := by
  cases x <;> cases y <;> first | rfl | exact absurd rfl h

/-- No other setting changes. -/
theorem settingValue_storeSetting_other {x y : Setting} (h : y ≠ x) (v : Value16) (s : State) :
    settingValue y (storeSetting x v s) = settingValue y s := by
  cases x with
  | shared a =>
    cases y with
    | shared b => exact sharedSettingValue_storeShared_other (by simpa using h) v s
    | ofReader q b => simp [settingValue, storeSetting]
  | ofReader r a =>
    cases y with
    | shared b => cases b <;> rfl
    | ofReader q b =>
      by_cases hq : q = r
      · subst hq
        simpa [settingValue, storeSetting] using readerSettingValue_storeReaderSetting_other (by simpa using h) v _
      · simp [settingValue, storeSetting, hq]

/-- A setting's value is read from the settings and, for RUN_NUMBER, from the run number (R129). -/
theorem KeepsConfig.settingValue {s t : State} (h : KeepsConfig s t) (hrun : t.numbering.runNumber = s.numbering.runNumber)
    (y : Setting) : settingValue y t = settingValue y s := by
  cases y with
  | shared y => cases y <;> simp [Machine.settingValue, sharedSettingValue, h.shared, hrun]
  | ofReader r y => simp [Machine.settingValue, h.ofReader r]

/-! ### The write, block by block (R75, R101, R134, R138, R166) -/

theorem takeDueTick_of_noTickDue {s : State} (h : noTickDue s) : takeDueTick s = s :=
  if_neg fun hdue => absurd (of_decide_eq_true hdue) (Nat.not_le.mpr h)

/-- The timebase at a SET: TICK_PRESCALE restarts the divider, and no other setting reaches it (R101, R105). -/
def timebaseAtSet (x : Setting) (s : State) : Timebase :=
  if x = .shared .tickPrescale then dividerRestarted (2 ^ s.settings.tickPrescale) s.timebase else s.timebase

theorem timebaseAtSet_count (x : Setting) (s : State) : (timebaseAtSet x s).count = s.timebase.count := by
  unfold timebaseAtSet; split <;> rfl

/-- With no tick due before the divider restarts, a write is the store and what the setting's owner does at once. -/
theorem writeSetting_eq {x : Setting} {s : State} (h : x = .shared .tickPrescale → noTickDue s) (v : Value16) :
    writeSetting x v s = applySetting x (storeSetting x v (s.withTimebase (timebaseAtSet x s))) := by
  unfold writeSetting timebaseAtSet
  dsimp only
  split
  next hx =>
    rw [restartDivider, takeDueTick_of_noTickDue (h hx)]
    rfl
  next => rfl

theorem storeSetting_numbering (x : Setting) (v : Value16) (s : State) :
    (storeSetting x v s).numbering =
      { s.numbering with runNumber := if x = .shared .runNumber then v else s.numbering.runNumber } := by
  cases x with
  | shared y => cases y <;> rfl
  | ofReader r y => rfl

/-- The busy unit re-evaluates after its own four settings alone (R134, R138). -/
theorem applySetting_busy {x : Setting}
    (h : x ∉ [Setting.shared .busyHigh, .shared .busyLow, .shared .forceBusy, .shared .settleBusy]) (s : State) :
    (applySetting x s).busy = s.busy := by
  unfold applySetting
  split
  case h_5 | h_6 => rfl
  all_goals simp at h

theorem applySetting_get (x : Setting) (s : State) (q : Reader) :
    (applySetting x s).readers.get q =
      if x = .ofReader q .holdClock then rejudgePulse s.timebase.count (s.readers.get q) else s.readers.get q := by
  unfold applySetting
  split
  case h_5 r =>
    rw [State.modifyReader_readers, PerReader.get_set]
    by_cases hq : q = r
    · subst hq; simp
    · simp [hq, Ne.symm hq]
  case h_6 hother => exact (if_neg (hother q)).symm
  all_goals simp

/-- A store reaches a context's settings alone. -/
theorem storeSetting_get (x : Setting) (v : Value16) (s : State) (q : Reader) :
    (storeSetting x v s).readers.get q =
      { s.readers.get q with settings := ((storeSetting x v s).readers.get q).settings } := by
  cases x with
  | shared y => simp [storeSetting]
  | ofReader r y =>
    by_cases hq : q = r
    · subst hq; simp [storeSetting]
    · simp [storeSetting, hq]

theorem storeSetting_holdClock (q : Reader) (v : Value16) (s : State) :
    ((storeSetting (.ofReader q .holdClock) v s).readers.get q).settings.holdClock = v.toNat := by
  simp [storeSetting, storeReaderSetting]

/-- A pulse that waits at the hold timer may fall at the count or not, by the hold clock as it stands (R75). -/
theorem rejudgePulse_eq (count : BitVec 48) (c : ReaderContext) :
    rejudgePulse count c = { c with
      holdTimer :=
        if c.holdTimer = .pulseDue ∧ count.toNat % (16 * 4 ^ c.settings.holdClock) ≠ 0 then .running 1 else c.holdTimer } := by
  have hfalls : lowBitsZero (4 + 2 * c.settings.holdClock) count = false ↔
      count.toNat % (16 * 4 ^ c.settings.holdClock) ≠ 0 := by
    rw [← Bool.not_eq_true, lowBitsZero_holdClock]
  unfold rejudgePulse
  simp only [hfalls]
  split <;> rfl

/-- A reader's context after an accepted SET. -/
theorem applySetting_storeSetting_get (x : Setting) (v : Value16) (s : State) (q : Reader) :
    (applySetting x (storeSetting x v s)).readers.get q = { s.readers.get q with
      settings := ((applySetting x (storeSetting x v s)).readers.get q).settings
      holdTimer :=
        if x = .ofReader q .holdClock ∧ (s.readers.get q).holdTimer = .pulseDue ∧
            s.timebase.count.toNat % (16 * 4 ^ v.toNat) ≠ 0
        then .running 1 else (s.readers.get q).holdTimer } := by
  rw [applySetting_get, storeSetting_timebase]
  by_cases hx : x = .ofReader q .holdClock
  · subst hx
    rw [if_pos rfl, rejudgePulse_eq, storeSetting_holdClock, storeSetting_get]
    simp
  · rw [if_neg hx, storeSetting_get]
    simp [hx]

/-- Settles O41: the answers of `answerSet` in their order, and the accepted write block by block. -/
theorem setStoresTheValue : Obligations.SetStoresTheValue := by
  intro r id v s htakes args admitted inRange
  have haccepts (x : Setting) : settingAccepts x v s = true ↔ inRange x := by
    rw [settingAccepts_iff, marksStayOrdered_iff]
  rw [exec_set htakes]
  refine ⟨fun h => ?_, fun h hunknown => ?_, fun x h hknown hout => ?_, fun x h hknown hin hdue => ?_⟩
  · rw [answerSet_notHolder h]
    rfl
  · rw [answerSet_badIndex h hunknown]
    rfl
  · rw [answerSet_known h hknown, if_neg fun hyes => hout ((haccepts x).mp hyes)]
    rfl
  · have hmax : v.toNat ≤ (settingRange x).2 := by
      obtain ⟨-, hmax, -⟩ := hin
      exact hmax
    have hkeeps := keepsConfig_writeSetting x v s
    have hwrite := writeSetting_eq hdue v
    have hnumbering : (writeSetting x v s).numbering = (storeSetting x v s).numbering := by
      rw [hwrite, applySetting_numbering, storeSetting_numbering, storeSetting_numbering]
      rfl
    have hvalue := hkeeps.settingValue (congrArg Numbering.runNumber hnumbering)
    rw [answerSet_known h hknown, if_pos ((haccepts x).mpr hin)]
    refine ⟨writeSetting x v s, rfl, ?_, fun y hy => ?_, ?_, ?_, by simp, ?_, ?_, by simp, by simp, by simp, ?_, ?_,
      fun hx => ?_, fun q => ?_⟩
    · rw [hvalue, settingValue_storeSetting hmax]
    · rw [hvalue, settingValue_storeSetting_other hy]
    · simp [hwrite]
    · simp [hwrite]
    · simp [hwrite]
    · simp [hwrite]
    · rw [hwrite, applySetting_timebase, storeSetting_timebase]
      rfl
    · rw [hnumbering, storeSetting_numbering]
    · rw [hwrite, applySetting_busy hx, storeSetting_busy]
      rfl
    · have hcontext := applySetting_storeSetting_get x v (s.withTimebase (timebaseAtSet x s)) q
      rwa [State.withTimebase_timebase, timebaseAtSet_count, State.withTimebase_readers, ← hwrite] at hcontext

end Sys2Proof.Machine
end

section
/-! SUPPORT. The trigger port's part of every event: what is no event of the trigger bus leaves the frame in the port, or ends it as
decided (R86, R92, R93). -/

namespace Sys2Proof.Machine

/-! ### The frame in the port -/

/-- The frame stands as it was, or it is decided and gone, with the port PASSIVE; the captured address stays. -/
structure KeepsFrame (s t : State) : Prop where
  captured : t.trigger.capturedAddress = s.trigger.capturedAddress
  fields   : (t.trigger.state = s.trigger.state ∧ t.trigger.frame = s.trigger.frame) ∨
    (t.trigger.state = .passive ∧ t.trigger.frame = .empty)

/-- Events that have no part in the trigger port. -/
theorem keepsFrame_of_eq {s t : State} (h : t.trigger = s.trigger) : KeepsFrame s t := by
  refine ⟨?_, .inl ⟨?_, ?_⟩⟩ <;> rw [h]

theorem KeepsFrame.refl (s : State) : KeepsFrame s s := keepsFrame_of_eq rfl

theorem KeepsFrame.trans {s t u : State} (h : KeepsFrame s t) (h' : KeepsFrame t u) : KeepsFrame s u := by
  refine ⟨h'.captured.trans h.captured, ?_⟩
  rcases h'.fields with ⟨hstate, hframe⟩ | hgone
  · rw [hstate, hframe]
    exact h.fields
  · exact .inr hgone

/-- What follows an event without a part in the trigger port. -/
theorem KeepsFrame.then_eq {s t u : State} (h : KeepsFrame s t) (heq : u.trigger = t.trigger) : KeepsFrame s u :=
  h.trans (keepsFrame_of_eq heq)

theorem KeepsFrame.reevaluateBusy {s t : State} (h : KeepsFrame s t) : KeepsFrame s (reevaluateBusy t) :=
  h.then_eq (reevaluateBusy_trigger t)

theorem KeepsFrame.modifyReader {s t : State} (h : KeepsFrame s t) (r : Reader) (f : ReaderContext → ReaderContext) :
    KeepsFrame s (t.modifyReader r f) := h.then_eq rfl

/-! ### Outcomes of a frame (R85, R88, R92, R93) -/

theorem keepsFrame_decideFrame (answer : Response) (s : State) : KeepsFrame s (decideFrame answer s) := ⟨rfl, .inr ⟨rfl, rfl⟩⟩

theorem keepsFrame_badFrame (s : State) : KeepsFrame s (badFrame s) := ⟨rfl, .inr ⟨rfl, rfl⟩⟩

theorem keepsFrame_refuseFull (s : State) : KeepsFrame s (refuseFull s) := ⟨rfl, .inr ⟨rfl, rfl⟩⟩

theorem keepsFrame_refuseEpoch (s : State) : KeepsFrame s (refuseEpoch s) := ⟨rfl, .inr ⟨rfl, rfl⟩⟩

theorem keepsFrame_acceptFrame (s : State) : KeepsFrame s (acceptFrame s) :=
  ⟨by simp [acceptFrame, decideFrame], .inr ⟨rfl, rfl⟩⟩

theorem keepsFrame_retryHeldFrame (s : State) : KeepsFrame s (retryHeldFrame s) := by
  unfold retryHeldFrame
  split
  · exact keepsFrame_acceptFrame s
  · exact .refl s

/-- The retirements let a held frame enter where they free a slot (R22). -/
theorem keepsFrame_cascade {s u : State} (h : u.trigger = s.trigger) : KeepsFrame s (cascade u) := by
  rcases cascade_cases u with ⟨he, -⟩ | ⟨_, rest, -, -, -, he⟩
  · rw [he]
    exact keepsFrame_of_eq h
  · rw [he]
    refine (KeepsFrame.trans (keepsFrame_of_eq ?_) (keepsFrame_retryHeldFrame _)).reevaluateBusy
    split <;> exact h

/-! ### Expiries and the timebase -/

theorem keepsFrame_takeHoldExpiry (r : Reader) (s : State) : KeepsFrame s (takeHoldExpiry r s) := by
  unfold takeHoldExpiry
  split
  · split
    · unfold expireForce
      split
      · exact keepsFrame_of_eq rfl
      · refine KeepsFrame.modifyReader (keepsFrame_cascade ?_) r _
        rfl
    · exact KeepsFrame.reevaluateBusy (keepsFrame_cascade rfl)
  · exact .refl s

theorem keepsFrame_takeStretchExpiry (s : State) : KeepsFrame s (takeStretchExpiry s) := by
  unfold takeStretchExpiry
  split
  · exact keepsFrame_refuseFull s
  · exact .refl s

theorem keepsFrame_takeDueEvents (s : State) : KeepsFrame s (takeDueEvents s) :=
  (keepsFrame_takeHoldExpiry .a s).trans <| (keepsFrame_takeHoldExpiry .b _).trans <|
    (keepsFrame_takeHoldExpiry .c _).trans <| (keepsFrame_takeHoldExpiry .d _).trans <|
    (keepsFrame_takeStretchExpiry _).then_eq (takeMinimumHoldExpiry_trigger _)

/-- A coarse pulse counts at the stretch timer, and the frame waits on (R92). -/
theorem keepsFrame_coarsePulse (s : State) : KeepsFrame s (coarsePulse s) := by
  have hpulse : KeepsFrame s (s.withTrigger (stretchPulse s.trigger)) := by
    refine ⟨?_, .inl ⟨?_, ?_⟩⟩ <;> simp only [State.withTrigger_trigger, stretchPulse] <;> split <;> rfl
  unfold coarsePulse
  split
  · exact hpulse.then_eq (busyPulse_trigger _)
  · exact .refl s

theorem keepsFrame_countTick (s : State) : KeepsFrame s (countTick s) := by
  refine KeepsFrame.then_eq (KeepsFrame.trans (keepsFrame_of_eq ?_) (keepsFrame_coarsePulse _)) (settleEdges_trigger _ _)
  exact settleEdges_trigger _ _

theorem keepsFrame_takeTick (s : State) : KeepsFrame s (takeTick s) :=
  (keepsFrame_takeDueEvents s).trans (keepsFrame_countTick _)

theorem keepsFrame_takeDueTick (s : State) : KeepsFrame s (takeDueTick s) := by
  unfold takeDueTick
  split
  · exact keepsFrame_takeTick s
  · exact .refl s

theorem keepsFrame_countRefclkEdge (s : State) : KeepsFrame s (countRefclkEdge s) := by
  unfold countRefclkEdge
  split
  · exact (keepsFrame_takeDueTick s).then_eq (by simp)
  · exact keepsFrame_of_eq rfl

theorem keepsFrame_takeSettleComplete (s : State) : KeepsFrame s (takeSettleComplete s) := by
  unfold takeSettleComplete
  dsimp only
  split
  · exact (keepsFrame_takeDueTick s).then_eq (by simp)
  · exact .refl s

theorem keepsFrame_loseRefclk (s : State) : KeepsFrame s (loseRefclk s) := by
  unfold loseRefclk
  split
  · exact (keepsFrame_takeDueTick s).then_eq (by simp [fallback])
  · exact keepsFrame_of_eq rfl

theorem keepsFrame_switchReference (x : ReferenceSelection) (s : State) : KeepsFrame s (switchReference x s) :=
  (keepsFrame_takeDueTick s).then_eq (by simp [switchReference])

theorem keepsFrame_writeSetting (x : Setting) (v : Value16) (s : State) : KeepsFrame s (writeSetting x v s) := by
  unfold writeSetting
  dsimp only
  split
  · exact (keepsFrame_takeDueTick s).then_eq (by simp [restartDivider])
  · exact keepsFrame_of_eq (by simp)

/-! ### The readers' commands -/

theorem keepsFrame_answerCauses (r : Reader) (s : State) : KeepsFrame s (answerCauses r s).after := keepsFrame_of_eq rfl

theorem keepsFrame_answerTake (r : Reader) (s : State) : KeepsFrame s (answerTake r s).after := by
  refine keepsFrame_of_eq ?_
  unfold answerTake
  dsimp only
  (repeat' split) <;> rfl

theorem keepsFrame_answerRelease (r : Reader) (id : Identity) (s : State) : KeepsFrame s (answerRelease r id s).after := by
  unfold answerRelease
  dsimp only
  split
  · exact .refl s
  split
  · exact keepsFrame_cascade (u := (s.withTable _).modifyReader r _) rfl
  · exact .refl s

theorem keepsFrame_answerReleaseOldest (r : Reader) (s : State) : KeepsFrame s (answerReleaseOldest r s).after := by
  unfold answerReleaseOldest
  dsimp only
  split
  · exact .refl s
  split
  · exact .refl s
  · exact keepsFrame_cascade (u := (s.withTable _).modifyReader r _) rfl

theorem keepsFrame_answerAttach (r : Reader) (s : State) : KeepsFrame s (answerAttach r s).after := by
  unfold answerAttach
  split
  · exact keepsFrame_of_eq (reevaluateBusy_trigger _)
  · exact .refl s

theorem keepsFrame_answerDetach (r : Reader) (s : State) : KeepsFrame s (answerDetach r s).after := by
  unfold answerDetach
  split
  · exact .refl s
  · exact (keepsFrame_cascade (massRelease_trigger r .detached s)).reevaluateBusy

theorem keepsFrame_answerResume (r : Reader) (s : State) : KeepsFrame s (answerResume r s).after := by
  unfold answerResume
  split
  · exact keepsFrame_of_eq (reevaluateBusy_trigger _)
  · exact .refl s

theorem keepsFrame_answerDeclareBusy (r : Reader) (value : Byte) (s : State) :
    KeepsFrame s (answerDeclareBusy r value s).after := by
  unfold answerDeclareBusy
  dsimp only
  split
  · split
    · exact .refl s
    · exact keepsFrame_of_eq (reevaluateBusy_trigger _)
  · exact .refl s

theorem keepsFrame_answerReaderReset (r : Reader) (s : State) : KeepsFrame s (answerReaderReset r s).after :=
  (keepsFrame_cascade (massRelease_trigger r .detached s)).then_eq (by simp [answerReaderReset, perform, freeTokenOf_eq])

/-! ### The commands that act on the hub -/

theorem keepsFrame_answerClaim (r : Reader) (s : State) : KeepsFrame s (answerClaim r s).after := by
  refine keepsFrame_of_eq ?_
  unfold answerClaim
  (repeat' split) <;> rfl

theorem keepsFrame_answerYield (r : Reader) (s : State) : KeepsFrame s (answerYield r s).after := by
  unfold answerYield; split <;> exact keepsFrame_of_eq rfl

theorem keepsFrame_answerSet (r : Reader) (id : Byte) (v : Value16) (s : State) : KeepsFrame s (answerSet r id v s).after := by
  unfold answerSet
  split
  · exact .refl s
  split
  · exact .refl s
  split
  · exact keepsFrame_writeSetting _ v s
  · exact .refl s

theorem keepsFrame_answerGet (id : Byte) (s : State) : KeepsFrame s (answerGet id s).after := by
  unfold answerGet; split <;> exact .refl s

theorem keepsFrame_answerRuleWrite (r : Reader) (index enable pattern mask sets interval : Byte) (s : State) :
    KeepsFrame s (answerRuleWrite r index enable pattern mask sets interval s).after := by
  refine keepsFrame_of_eq ?_
  unfold answerRuleWrite
  (repeat' split) <;> rfl

theorem keepsFrame_answerRuleRead (index : Byte) (s : State) : KeepsFrame s (answerRuleRead index s).after := by
  unfold answerRuleRead; split <;> exact .refl s

theorem keepsFrame_answerEpoch (r : Reader) (s : State) : KeepsFrame s (answerEpoch r s).after := by
  refine keepsFrame_of_eq ?_
  unfold answerEpoch
  (repeat' split) <;> simp [perform, refuse]

/-- A clear lets a held frame enter the table that it has emptied (R24). -/
theorem keepsFrame_hubClear (s : State) : KeepsFrame s (hubClear s) := by
  have hempty : KeepsFrame s (emptyHub s) := ⟨rfl, .inl ⟨rfl, rfl⟩⟩
  refine (hempty.then_eq ?_).trans (keepsFrame_retryHeldFrame _)
  split <;> simp

theorem keepsFrame_answerClear (r : Reader) (s : State) : KeepsFrame s (answerClear r s).after := by
  unfold answerClear
  split
  · exact keepsFrame_hubClear s
  · exact .refl s

theorem keepsFrame_answerReference (r : Reader) (value : Byte) (s : State) :
    KeepsFrame s (answerReference r value s).after := by
  unfold answerReference
  split
  · exact .refl s
  split
  · exact .refl s
  split
  · exact .refl s
  split
  · exact .refl s
  · exact keepsFrame_switchReference _ s

theorem keepsFrame_answerCounter (r : Reader) (index form : Byte) (s : State) :
    KeepsFrame s (answerCounter r index form s).after := by
  unfold answerCounter; (repeat' split) <;> exact .refl s

theorem keepsFrame_answerClearCounters (r : Reader) (s : State) : KeepsFrame s (answerClearCounters r s).after := by
  unfold answerClearCounters; split <;> exact keepsFrame_of_eq rfl

end Sys2Proof.Machine
end

section
/-! SUPPORT. The gathered fields stay those of the frame state (R80, R83, R84, R86, R87): first the reader commands in one form, then the
events of the trigger bus, which alone gather fields. -/

namespace Sys2Proof.Machine

/-! ### The reader commands (R144, R146) -/

/-- What every reader command is: as many argument bytes as its code has, and an effect that leaves the ports alone and keeps or
decides the frame in the trigger port. -/
structure CommandForm (code : Byte) (args : List Byte) (act : State → Answer) : Prop where
  arguments : args.length = argumentCount code
  ports     : KeepsPorts act
  frame     : ∀ s, KeepsFrame s (act s).after

/-- An unknown code has no arguments (R146). -/
theorem argumentCount_of_unknown {code : Byte} (h : knownCommandCodes.contains code = false) : argumentCount code = 0 := by
  have hnone : commandIndex.lookup code = none := by
    refine List.lookup_eq_none_iff.mpr fun e he => ?_
    have hcode : e.1 ∈ knownCommandCodes := by
      revert e
      decide
    refine bne_iff_ne.mpr fun heq => ?_
    simp [heq, hcode] at h
  simp [argumentCount, hnone]

/-- A reader command is taken at its port, or it is BAD_COMMAND with a known code and changes nothing (log entry 3). -/
theorem exec_of_readerOf {c : Instr} {r : Reader} (h : readerOf c = some r) (s : State) :
    exec c s = .next s ∨ ∃ code args length act,
      exec c s = .next (command r code args length act s) ∧ CommandForm code args act := by
  have report (f : State → List Byte) (u : State) : KeepsFrame u (perform (f u) u).after := .refl u
  cases c with
  | badCommand q code =>
    cases h
    cases hknown : knownCommandCodes.contains code with
    | true => exact .inl (congrArg Host.Outcome.next (if_pos hknown))
    | false =>
      exact .inr ⟨code, [], 0, _, congrArg Host.Outcome.next (if_neg (by simpa using hknown)),
        (argumentCount_of_unknown hknown).symm, keeps_refuse .badCommand, .refl⟩
  | status q => cases h; exact .inr ⟨_, _, _, _, rfl, rfl, keeps_report _, report _⟩
  | time q => cases h; exact .inr ⟨_, _, _, _, rfl, rfl, keeps_report _, report _⟩
  | causes q => cases h; exact .inr ⟨_, _, _, _, rfl, rfl, keeps_causes r, keepsFrame_answerCauses r⟩
  | take q => cases h; exact .inr ⟨_, _, _, _, rfl, rfl, keeps_take r, keepsFrame_answerTake r⟩
  | release q epoch number => cases h; exact .inr ⟨_, _, _, _, rfl, rfl, keeps_release r _, keepsFrame_answerRelease r _⟩
  | releaseOldest q => cases h; exact .inr ⟨_, _, _, _, rfl, rfl, keeps_releaseOldest r, keepsFrame_answerReleaseOldest r⟩
  | held q => cases h; exact .inr ⟨_, _, _, _, rfl, rfl, keeps_report _, report _⟩
  | attach q => cases h; exact .inr ⟨_, _, _, _, rfl, rfl, keeps_attach r, keepsFrame_answerAttach r⟩
  | detach q => cases h; exact .inr ⟨_, _, _, _, rfl, rfl, keeps_detach r, keepsFrame_answerDetach r⟩
  | resume q => cases h; exact .inr ⟨_, _, _, _, rfl, rfl, keeps_resume r, keepsFrame_answerResume r⟩
  | declareBusy q value =>
    cases h; exact .inr ⟨_, _, _, _, rfl, rfl, keeps_declareBusy r value, keepsFrame_answerDeclareBusy r value⟩
  | readerReset q => cases h; exact .inr ⟨_, _, _, _, rfl, rfl, keeps_readerReset r, keepsFrame_answerReaderReset r⟩
  | claim q => cases h; exact .inr ⟨_, _, _, _, rfl, rfl, keeps_claim r, keepsFrame_answerClaim r⟩
  | yield q => cases h; exact .inr ⟨_, _, _, _, rfl, rfl, keeps_yield r, keepsFrame_answerYield r⟩
  | set q id value | setBusyHigh q value | setBusyLow q value | setForceBusy q value | setSettleBusy q value
  | setTickPrescale q value | setRunNumber q value | setAttnMask q target value =>
    cases h; exact .inr ⟨_, _, _, _, rfl, rfl, keeps_set r _ value, keepsFrame_answerSet r _ value⟩
  | get q id => cases h; exact .inr ⟨_, _, _, _, rfl, rfl, keeps_get id, keepsFrame_answerGet id⟩
  | ruleWrite q index enable pattern mask sets interval =>
    cases h
    exact .inr ⟨_, _, _, _, rfl, rfl, keeps_ruleWrite r index enable pattern mask sets interval,
      keepsFrame_answerRuleWrite r index enable pattern mask sets interval⟩
  | ruleRead q index => cases h; exact .inr ⟨_, _, _, _, rfl, rfl, keeps_ruleRead index, keepsFrame_answerRuleRead index⟩
  | epoch q => cases h; exact .inr ⟨_, _, _, _, rfl, rfl, keeps_epoch r, keepsFrame_answerEpoch r⟩
  | clear q => cases h; exact .inr ⟨_, _, _, _, rfl, rfl, keeps_clear r, keepsFrame_answerClear r⟩
  | reference q value => cases h; exact .inr ⟨_, _, _, _, rfl, rfl, keeps_reference r value, keepsFrame_answerReference r value⟩
  | counter q index form =>
    cases h; exact .inr ⟨_, _, _, _, rfl, rfl, keeps_counter r index form, keepsFrame_answerCounter r index form⟩
  | clearCounters q => cases h; exact .inr ⟨_, _, _, _, rfl, rfl, keeps_clearCounters r, keepsFrame_answerClearCounters r⟩
  | _ => cases h

/-! ### The fields of each frame state (R83, R84, R86) -/

/-- The frame states in which no field is gathered (log entry 15). -/
def FrameState.Bare (x : FrameState) : Prop := x = .idle ∨ x = .address ∨ x = .sending ∨ x = .passive

theorem fieldsLegal_bare {p : TriggerPort} (h : p.state.Bare) : fieldsLegal p ↔ p.frame = .empty := by
  rcases h with h | h | h | h <;> simp [fieldsLegal, h]

theorem fieldsLegal_header {p : TriggerPort} (h : p.state = .header) : fieldsLegal p ↔ p.frame.tagBytes = [] := by
  simp [fieldsLegal, h]

theorem fieldsLegal_classByte {p : TriggerPort} (h : p.state = .classByte) :
    fieldsLegal p ↔ p.frame.kind = .trigger ∧ p.frame.tagBytes = [] := by
  simp [fieldsLegal, h]

theorem fieldsLegal_tag {p : TriggerPort} (h : p.state = .tag) :
    fieldsLegal p ↔ p.frame.kind = .trigger ∧ p.frame.tagged = true ∧ p.frame.tagBytes.length ≤ 1 := by
  simp [fieldsLegal, h]

theorem fieldsLegal_check {p : TriggerPort} (h : p.state = .check) :
    fieldsLegal p ↔ p.frame.tagBytes.length = (if p.frame.tagged then 2 else 0) := by
  simp [fieldsLegal, h]

theorem fieldsLegal_holding {p : TriggerPort} (h : p.state = .holding) :
    fieldsLegal p ↔ p.frame.kind = .trigger ∧ p.frame.tagBytes.length = (if p.frame.tagged then 2 else 0) := by
  simp [fieldsLegal, h]

/-- The fields answer for the frame state alone. -/
theorem fieldsLegal_congr {p q : TriggerPort} (hstate : q.state = p.state) (hframe : q.frame = p.frame) (h : fieldsLegal p) :
    fieldsLegal q := by
  unfold fieldsLegal at h ⊢
  rwa [hstate, hframe]

/-! ### Events that gather no field -/

theorem KeepsFrame.frameLegal {s t : State} (hkeeps : KeepsFrame s t) (h : frameLegal s.trigger) : frameLegal t.trigger := by
  obtain ⟨hfields, hrange⟩ := h
  refine ⟨?_, by rwa [hkeeps.captured]⟩
  rcases hkeeps.fields with ⟨hstate, hframe⟩ | ⟨hpassive, hgone⟩
  · exact fieldsLegal_congr hstate hframe hfields
  · exact (fieldsLegal_bare (.inr (.inr (.inr hpassive)))).mpr hgone

theorem frameLegal_inReset (pending : List Instr) (csLow : PerReader Bool) : frameLegal (State.inReset pending csLow).trigger :=
  frameLegal_reset

/-! ### The trigger bus -/

/-- A byte moves the frame on, and the captured address stays. -/
theorem frameLegal_withTrigger {s : State} {p : TriggerPort} (hcaptured : p.capturedAddress = s.trigger.capturedAddress)
    (hfields : fieldsLegal p) (h : frameLegal s.trigger) : frameLegal (s.withTrigger p).trigger := by
  obtain ⟨-, hrange⟩ := h
  rw [← hcaptured] at hrange
  exact ⟨hfields, hrange⟩

theorem frameLegal_acknowledgeByte {next : FrameState} {f : Frame} {s : State}
    (hfields : ∀ p : TriggerPort, p.state = next → p.frame = f → fieldsLegal p) (h : frameLegal s.trigger) :
    frameLegal (acknowledgeByte next f s).trigger :=
  frameLegal_withTrigger rfl (hfields _ rfl rfl) h

/-- A start mark captures BUS_ADDRESS, which lies in its range (R80, R163). -/
theorem frameLegal_takeStartMark {s : State} (haddress : 0x08 ≤ s.settings.busAddress.toNat ∧ s.settings.busAddress.toNat ≤ 0x77)
    (h : frameLegal s.trigger) : frameLegal (takeStartMark s).trigger := by
  have hsettings : (countTruncation s).settings = s.settings := by
    unfold countTruncation; split <;> rfl
  unfold takeStartMark
  split
  · exact h
  · refine ⟨(fieldsLegal_bare (.inr (.inl rfl))).mpr rfl, ?_⟩
    simpa [hsettings] using haddress

theorem frameLegal_takeStopMark {s : State} (h : frameLegal s.trigger) : frameLegal (takeStopMark s).trigger := by
  unfold takeStopMark
  split
  · exact h
  · refine frameLegal_withTrigger rfl ((fieldsLegal_bare (.inl rfl)).mpr rfl) ?_
    rwa [countTruncation_trigger]

/-- The address byte finds no field gathered, and opens a frame with none (R81). -/
theorem frameLegal_judgeAddress (byte : Byte) {s : State} (hstate : s.trigger.state = .address) (h : frameLegal s.trigger) :
    frameLegal (judgeAddress byte s).trigger := by
  obtain ⟨hfields, -⟩ := id h
  have hbare : s.trigger.frame = .empty := (fieldsLegal_bare (.inr (.inl hstate))).mp hfields
  unfold judgeAddress
  split
  · split
    · exact frameLegal_withTrigger rfl ((fieldsLegal_bare (.inr (.inr (.inl rfl)))).mpr hbare) h
    · exact frameLegal_acknowledgeByte (fun p hp hf => (fieldsLegal_header hp).mpr (by rw [hf]; rfl)) h
  · split
    · exact frameLegal_acknowledgeByte (fun p hp hf => (fieldsLegal_header hp).mpr (by rw [hf]; rfl)) h
    · exact (keepsFrame_decideFrame _ s).frameLegal h

/-- The header byte gives kind and tag bit; an epoch frame has no tag (R83). -/
theorem frameLegal_judgeHeader (byte : Byte) {s : State} (hstate : s.trigger.state = .header) (h : frameLegal s.trigger) :
    frameLegal (judgeHeader byte s).trigger := by
  obtain ⟨hfields, -⟩ := id h
  have hnone : s.trigger.frame.tagBytes = [] := (fieldsLegal_header hstate).mp hfields
  unfold judgeHeader
  dsimp only
  split
  · exact (keepsFrame_badFrame s).frameLegal h
  · exact frameLegal_acknowledgeByte (fun p hp hf => (fieldsLegal_classByte hp).mpr (by simp [hf, hnone])) h
  · exact frameLegal_acknowledgeByte (fun p hp hf => (fieldsLegal_check hp).mpr (by simp [hf, hnone])) h

/-- The class byte is followed by the tag bytes where the tag bit is set (R84). -/
theorem frameLegal_judgeClass (byte : Byte) {s : State} (hstate : s.trigger.state = .classByte) (h : frameLegal s.trigger) :
    frameLegal (judgeClass byte s).trigger := by
  obtain ⟨hfields, -⟩ := id h
  obtain ⟨hkind, hnone⟩ := (fieldsLegal_classByte hstate).mp hfields
  unfold judgeClass
  dsimp only
  split
  · cases htag : s.trigger.frame.tagged with
    | true => exact frameLegal_acknowledgeByte (fun p hp hf => (fieldsLegal_tag hp).mpr (by simp [hf, hkind, hnone])) h
    | false => exact frameLegal_acknowledgeByte (fun p hp hf => (fieldsLegal_check hp).mpr (by simp [hf, hnone])) h
  · exact (keepsFrame_badFrame s).frameLegal h

/-- Two tag bytes, and the check byte is next (R84). -/
theorem frameLegal_takeTagByte (byte : Byte) {s : State} (hstate : s.trigger.state = .tag) (h : frameLegal s.trigger) :
    frameLegal (takeTagByte byte s).trigger := by
  obtain ⟨hfields, -⟩ := id h
  obtain ⟨hkind, htag, hlength⟩ := (fieldsLegal_tag hstate).mp hfields
  unfold takeTagByte
  dsimp only
  cases hbytes : s.trigger.frame.tagBytes with
  | nil => exact frameLegal_acknowledgeByte (fun p hp hf => (fieldsLegal_tag hp).mpr (by simp [hf, hkind, htag])) h
  | cons first rest =>
    have hone : rest = [] := by simpa [hbytes] using hlength
    exact frameLegal_acknowledgeByte (fun p hp hf => (fieldsLegal_check hp).mpr (by simp [hf, htag, hone])) h

/-- A trigger frame waits in HOLDING with the fields that the check byte found (R88, R91). -/
theorem frameLegal_judgeTriggerCheck (byte : Byte) {s : State} (hstate : s.trigger.state = .check)
    (hkind : s.trigger.frame.kind = .trigger) (h : frameLegal s.trigger) : frameLegal (judgeTriggerCheck byte s).trigger := by
  unfold judgeTriggerCheck
  split
  · exact (keepsFrame_badFrame s).frameLegal h
  split
  · exact (keepsFrame_refuseEpoch s).frameLegal h
  split
  · exact (keepsFrame_acceptFrame s).frameLegal h
  split
  · exact (keepsFrame_refuseFull s).frameLegal h
  · obtain ⟨hfields, hrange⟩ := h
    exact ⟨(fieldsLegal_holding rfl).mpr ⟨hkind, (fieldsLegal_check hstate).mp hfields⟩, hrange⟩

theorem frameLegal_judgeEpochCheck (byte : Byte) {s : State} (h : frameLegal s.trigger) :
    frameLegal (judgeEpochCheck byte s).trigger := by
  unfold judgeEpochCheck
  split
  · exact (keepsFrame_badFrame s).frameLegal h
  split
  · exact (keepsFrame_decideFrame _ s).frameLegal h
  · refine (keepsFrame_decideFrame _ _).frameLegal ?_
    rwa [requestEpochReset_trigger]

/-- A byte is judged as the one that the frame state awaits (R86). -/
theorem frameLegal_receiveByte (byte : Byte) {s : State} (h : frameLegal s.trigger) : frameLegal (receiveByte byte s).trigger := by
  obtain ⟨hfields, -⟩ := id h
  unfold receiveByte
  split
  · exact frameLegal_withTrigger rfl (fieldsLegal_congr rfl rfl hfields) h
  · exact frameLegal_withTrigger rfl (fieldsLegal_congr rfl rfl hfields) h
  next hstate => exact frameLegal_judgeAddress byte hstate h
  next hstate => exact frameLegal_judgeHeader byte hstate h
  next hstate => exact frameLegal_judgeClass byte hstate h
  next hstate => exact frameLegal_takeTagByte byte hstate h
  next hstate =>
    split
    next hkind => exact frameLegal_judgeTriggerCheck byte hstate hkind h
    next => exact frameLegal_judgeEpochCheck byte h
  · exact h
  · exact h

theorem frameLegal_sendStatusByte (acknowledged : Bool) {s : State} (h : frameLegal s.trigger) :
    frameLegal (sendStatusByte acknowledged s).trigger := by
  obtain ⟨hfields, -⟩ := id h
  unfold sendStatusByte
  split
  · split
    · exact frameLegal_withTrigger rfl (fieldsLegal_congr rfl rfl hfields) h
    · exact (keepsFrame_decideFrame _ s).frameLegal h
  · exact h

/-! ### Every step -/

theorem frameLegal_whileRunning {f : State → State} {s : State} (hf : frameLegal s.trigger → frameLegal (f s).trigger)
    (h : frameLegal s.trigger) : frameLegal (whileRunning f s).trigger := by
  unfold whileRunning
  split
  · exact h
  · exact hf h

/-- EPOCH_RESET has no part in the trigger port (R122). -/
theorem takeEpochReset_trigger (s : State) :
    (if s.numbering.epochPending && s.table.isEmpty then reevaluateBusy (applyEpochReset s) else s).trigger = s.trigger := by
  split <;> simp

theorem frameLegal_command {code : Byte} {args : List Byte} {act : State → Answer} (hform : CommandForm code args act) (r : Reader)
    (length : Nat) {s : State} (h : frameLegal s.trigger) : frameLegal (command r code args length act s).trigger := by
  unfold command
  split
  · exact (hform.frame s).frameLegal h
  · exact h

theorem exec_frameLegal (c : Instr) {s : State} (hsettings : settingsLegal s) (h : frameLegal s.trigger) :
    ∃ t, exec c s = .next t ∧ frameLegal t.trigger := by
  have running {f : State → State} (hf : ∀ u, KeepsFrame u (f u)) : frameLegal (whileRunning f s).trigger :=
    frameLegal_whileRunning (hf s).frameLegal h
  have byteEvent (byte : Byte) : frameLegal (whileRunning (receiveByte byte) s).trigger :=
    frameLegal_whileRunning (frameLegal_receiveByte byte) h
  cases hreader : readerOf c with
  | some r =>
    rcases exec_of_readerOf hreader s with hsame | ⟨code, args, length, act, hexec, hform⟩
    · exact ⟨s, hsame, h⟩
    · exact ⟨_, hexec, frameLegal_command hform r length h⟩
  | none =>
    cases c with
    | deviceReset => exact ⟨_, rfl, frameLegal_inReset _ _⟩
    | resetRelease => exact ⟨_, rfl, by split; exacts [by simpa using h, h]⟩
    | tick => exact ⟨_, rfl, running keepsFrame_takeTick⟩
    | holdExpiry r => exact ⟨_, rfl, running (keepsFrame_takeHoldExpiry r)⟩
    | minimumHoldExpiry => exact ⟨_, rfl, running fun u => keepsFrame_of_eq (takeMinimumHoldExpiry_trigger u)⟩
    | stretchExpiry => exact ⟨_, rfl, running keepsFrame_takeStretchExpiry⟩
    | refclkEdge => exact ⟨_, rfl, running keepsFrame_countRefclkEdge⟩
    | refclkAbsent => exact ⟨_, rfl, running keepsFrame_loseRefclk⟩
    | settleComplete => exact ⟨_, rfl, running keepsFrame_takeSettleComplete⟩
    | startMark =>
      obtain ⟨⟨haddress, -⟩, -⟩ := hsettings
      exact ⟨_, rfl, frameLegal_whileRunning (frameLegal_takeStartMark haddress) h⟩
    | stopMark => exact ⟨_, rfl, frameLegal_whileRunning frameLegal_takeStopMark h⟩
    | addressByte byte | headerByte byte | classByte byte | tagByte byte | triggerCheckByte byte | epochCheckByte byte =>
      exact ⟨_, rfl, byteEvent byte⟩
    | holdingEntry => exact ⟨_, rfl, running keepsFrame_retryHeldFrame⟩
    | epochReset => exact ⟨_, rfl, running fun u => keepsFrame_of_eq (takeEpochReset_trigger u)⟩
    | statusReadByte acknowledged => exact ⟨_, rfl, frameLegal_whileRunning (frameLegal_sendStatusByte acknowledged) h⟩
    | transactionOpen r | transactionEnd r => exact ⟨_, rfl, by split <;> exact h⟩
    | _ => cases hreader

/-- Settles O59: a byte time has no part in the trigger port, and every command keeps the fields in step with the frame state. -/
theorem stepKeepsFrameLegal : Obligations.StepKeepsFrameLegal := by
  intro s t hsettings hframe hstep
  unfold step at hstep
  split at hstep
  next =>
    obtain rfl : byteTime s = t := by injection hstep
    exact hframe
  next c rest _ =>
    obtain ⟨u, hu, hlegal⟩ := exec_frameLegal c (s := s.withPending rest) hsettings hframe
    obtain rfl : u = t := by rw [hu] at hstep; injection hstep
    exact hlegal

end Sys2Proof.Machine
end

section
/-! SUPPORT. The reader ports and the reset line after every event (R79, R100, R144, R150, R156): each port's moves, then the events while
RST_N is low, which leave every block at its reset values, and the events while it is high. -/

namespace Sys2Proof.Machine

/-! ### One port -/

theorem portLegal_idleAt (rstLow csLow : Bool) : portLegal rstLow (.idleAt csLow) :=
  ⟨fun h => absurd rfl h, fun _ => rfl, nofun, nofun⟩

/-- The falling edge of CS_N opens a transaction in COMMAND, and nothing but its header is latched (R144). -/
theorem portLegal_openPort (r : Reader) {s : State} (hhigh : s.rstLow = false) : portLegal false (openPort r s) := by
  simp [portLegal, openPort, hhigh, pastEffect]

/-- Past the effect point the port holds the command's bytes and its answer, zeros where it was not OK (R146, R150). -/
theorem portLegal_answered {p : ReaderPort} (hlow : p.csLow = true) {code : Byte} {args : List Byte}
    (hargs : args.length = argumentCount code) (length : Nat) (x : Answer) :
    portLegal false { p with
      phase := .turnaround, command := some code, args := args, status := some x.status, reply := replyBytes length x,
      sent := 0 } := by
  refine ⟨fun _ => ⟨hlow, rfl⟩, nofun, fun _ => ⟨⟨code, rfl, hargs⟩, rfl, fun hfailed byte hbyte => ?_⟩, nofun⟩
  rw [replyBytes, if_neg fun hok => hfailed (congrArg some hok)] at hbyte
  exact List.eq_of_mem_replicate hbyte

/-- A byte time takes a port past its effect point to its next phase (R144, R150), and leaves every other one alone. -/
theorem portLegal_sendByte {rstLow : Bool} {p : ReaderPort} (h : portLegal rstLow p) : portLegal rstLow (sendByte p) := by
  obtain ⟨hopen, -, heffect, -⟩ := id h
  unfold sendByte
  split
  next hphase =>
    have hopened := hopen (by simp [hphase])
    exact ⟨fun _ => hopened, nofun, fun _ => heffect (by simp [hphase, pastEffect]), nofun⟩
  next hphase =>
    have hopened := hopen (by simp [hphase])
    have hanswer := heffect (by simp [hphase, pastEffect])
    by_cases hempty : p.reply = []
    · rw [if_pos hempty]
      exact ⟨fun _ => hopened, nofun, fun _ => hanswer, nofun⟩
    · rw [if_neg hempty]
      exact ⟨fun _ => hopened, nofun, fun _ => hanswer, fun _ => List.length_pos_iff.mpr hempty⟩
  next hphase =>
    have hopened := hopen (by simp [hphase])
    have hanswer := heffect (by simp [hphase, pastEffect])
    by_cases hleft : p.sent + 1 < p.reply.length
    · rw [if_pos hleft]
      exact ⟨fun _ => hopened, nofun, fun _ => hanswer, fun _ => hleft⟩
    · rw [if_neg hleft]
      exact ⟨fun _ => hopened, nofun, fun _ => hanswer, nofun⟩
  all_goals exact h

/-! ### While RST_N is low (R79, R100, R144, R156) -/

/-- The ports are legal, and every block stands at its reset values while RST_N is low. -/
structure PortsStand (s : State) : Prop where
  legal : portsLegal s
  reset : resetStands s

theorem portsStand_inReset (pending : List Instr) (csLow : PerReader Bool) : PortsStand (State.inReset pending csLow) := by
  refine ⟨fun r => ?_, fun _ => rfl⟩
  rw [inReset_ports_get]
  exact portLegal_idleAt _ _

/-- A line of CS_N moves, and its port stays IDLE (R156). -/
theorem inReset_withPort (pending : List Instr) (csLow : PerReader Bool) (r : Reader) (level : Bool) :
    (State.inReset pending csLow).withPorts ((State.inReset pending csLow).ports.set r (.idleAt level)) =
      State.inReset pending (csLow.set r level) := by
  cases r <;> rfl

theorem openPort_inReset (pending : List Instr) (csLow : PerReader Bool) (r : Reader) :
    openPort r (State.inReset pending csLow) = .idleAt true := by
  cases r <;> rfl

/-- With RST_N high there is no reset to stand. -/
theorem resetStands_of_high {s : State} (hhigh : s.rstLow = false) : resetStands s :=
  fun hlow => absurd (hhigh.symm.trans hlow) Bool.false_ne_true

theorem portsStand_high {s : State} (hhigh : s.rstLow = false) (h : ∀ r, portLegal false (s.ports.get r)) : PortsStand s :=
  ⟨fun r => by rw [hhigh]; exact h r, resetStands_of_high hhigh⟩

/-- A command to a hub in reset moves a line of CS_N, ends the reset, or changes nothing. -/
theorem exec_inReset (c : Instr) (pending : List Instr) (csLow : PerReader Bool) :
    ∃ t, exec c (State.inReset pending csLow) = .next t ∧ PortsStand t := by
  have stands := portsStand_inReset pending csLow
  cases hreader : readerOf c with
  | some r =>
    rcases exec_of_readerOf hreader (State.inReset pending csLow) with hsame | ⟨code, args, length, act, hexec, -⟩
    · exact ⟨_, hsame, stands⟩
    · exact ⟨_, hexec, by rwa [command_not_listening rfl]⟩
  | none =>
    cases c with
    | deviceReset => exact ⟨_, rfl, portsStand_inReset _ _⟩
    | resetRelease =>
      refine ⟨_, resetRelease_inReset pending csLow, portsStand_high rfl fun r => ?_⟩
      rw [inReset_ports_get]
      exact portLegal_idleAt _ _
    | transactionOpen r =>
      refine ⟨_, rfl, ?_⟩
      split
      · exact stands
      · rw [openPort_inReset, inReset_withPort]
        exact portsStand_inReset _ _
    | transactionEnd r =>
      refine ⟨_, rfl, ?_⟩
      split
      · rw [inReset_withPort]
        exact portsStand_inReset _ _
      · exact stands
    | tick | holdExpiry r | minimumHoldExpiry | stretchExpiry | refclkEdge | refclkAbsent | settleComplete | startMark | stopMark
    | addressByte byte | headerByte byte | classByte byte | tagByte byte | triggerCheckByte byte | holdingEntry
    | epochCheckByte byte | epochReset | statusReadByte acknowledged => exact ⟨_, rfl, stands⟩
    | _ => cases hreader

/-! ### While RST_N is high -/

/-- The event leaves the reader ports and the reset line alone. -/
structure KeepsLines (s t : State) : Prop where
  ports  : t.ports = s.ports
  rstLow : t.rstLow = s.rstLow

theorem KeepsLines.refl (s : State) : KeepsLines s s := ⟨rfl, rfl⟩

theorem keepsLines_countTruncation (s : State) : KeepsLines s (countTruncation s) := by
  unfold countTruncation; split <;> exact ⟨rfl, rfl⟩

theorem keepsLines_takeStartMark (s : State) : KeepsLines s (takeStartMark s) := by
  obtain ⟨hports, hline⟩ := keepsLines_countTruncation s
  unfold takeStartMark
  split
  · exact .refl s
  · exact ⟨hports, hline⟩

theorem keepsLines_takeStopMark (s : State) : KeepsLines s (takeStopMark s) := by
  obtain ⟨hports, hline⟩ := keepsLines_countTruncation s
  unfold takeStopMark
  split
  · exact .refl s
  · exact ⟨hports, hline⟩

theorem keepsLines_judgeAddress (byte : Byte) (s : State) : KeepsLines s (judgeAddress byte s) := by
  unfold judgeAddress; (repeat' split) <;> exact ⟨rfl, rfl⟩

theorem keepsLines_judgeHeader (byte : Byte) (s : State) : KeepsLines s (judgeHeader byte s) := by
  unfold judgeHeader; dsimp only; split <;> exact ⟨rfl, rfl⟩

theorem keepsLines_judgeClass (byte : Byte) (s : State) : KeepsLines s (judgeClass byte s) := by
  unfold judgeClass; dsimp only; split <;> exact ⟨rfl, rfl⟩

theorem keepsLines_judgeTriggerCheck (byte : Byte) (s : State) : KeepsLines s (judgeTriggerCheck byte s) := by
  unfold judgeTriggerCheck
  split
  · exact ⟨rfl, rfl⟩
  split
  · exact ⟨rfl, rfl⟩
  split
  · exact ⟨acceptFrame_ports s, acceptFrame_rstLow s⟩
  split
  · exact ⟨rfl, rfl⟩
  · exact ⟨rfl, rfl⟩

theorem keepsLines_judgeEpochCheck (byte : Byte) (s : State) : KeepsLines s (judgeEpochCheck byte s) := by
  unfold judgeEpochCheck
  split
  · exact ⟨rfl, rfl⟩
  split
  · exact ⟨rfl, rfl⟩
  · exact ⟨requestEpochReset_ports s, requestEpochReset_rstLow s⟩

theorem keepsLines_receiveByte (byte : Byte) (s : State) : KeepsLines s (receiveByte byte s) := by
  unfold receiveByte
  split
  · exact ⟨rfl, rfl⟩
  · exact ⟨rfl, rfl⟩
  · exact keepsLines_judgeAddress byte s
  · exact keepsLines_judgeHeader byte s
  · exact keepsLines_judgeClass byte s
  · exact ⟨rfl, rfl⟩
  · split
    · exact keepsLines_judgeTriggerCheck byte s
    · exact keepsLines_judgeEpochCheck byte s
  · exact .refl s
  · exact .refl s

theorem keepsLines_sendStatusByte (acknowledged : Bool) (s : State) : KeepsLines s (sendStatusByte acknowledged s) := by
  unfold sendStatusByte; (repeat' split) <;> exact ⟨rfl, rfl⟩

/-- EPOCH_RESET: a pending reset at an empty table (R122). -/
theorem keepsLines_takeEpochReset (s : State) :
    KeepsLines s (if s.numbering.epochPending && s.table.isEmpty then reevaluateBusy (applyEpochReset s) else s) := by
  split
  · exact ⟨by simp, by simp⟩
  · exact .refl s

/-- One port moves, and the others stay as they were. -/
theorem portsStand_setPort {s t : State} (hhigh : t.rstLow = false) {r : Reader} {p : ReaderPort}
    (hports : t.ports = s.ports.set r p) (hp : portLegal false p) (h : ∀ q, portLegal false (s.ports.get q)) : PortsStand t := by
  refine portsStand_high hhigh fun q => ?_
  rw [hports, PerReader.get_set]
  split
  · exact hp
  · exact h q

/-- A reader command takes its own port from COMMAND past the effect point, or finds it not listening (R144, R147). -/
theorem portsStand_command {code : Byte} {args : List Byte} {act : State → Answer} (hform : CommandForm code args act) (r : Reader)
    (length : Nat) {s : State} (hhigh : s.rstLow = false) (h : ∀ q, portLegal false (s.ports.get q)) :
    PortsStand (command r code args length act s) := by
  by_cases hphase : (s.ports.get r).phase = .command
  · obtain ⟨hports, hline, -⟩ := hform.ports s
    obtain ⟨hopen, -⟩ := h r
    obtain ⟨hlow, -⟩ := hopen (by simp [hphase])
    rw [command_answered hform.ports ⟨hhigh, hphase⟩ code args hform.arguments]
    refine portsStand_setPort (s := (act s).after) (hline.trans hhigh) rfl
      (portLegal_answered (p := (act s).after.ports.get r) (by rwa [hports]) hform.arguments length (act s)) ?_
    rwa [hports]
  · rw [command_not_listening (by simp [listening, hphase])]
    exact portsStand_high hhigh h

theorem exec_portsStand (c : Instr) {s : State} (hhigh : s.rstLow = false) (h : ∀ r, portLegal false (s.ports.get r)) :
    ∃ t, exec c s = .next t ∧ PortsStand t := by
  have stands : PortsStand s := portsStand_high hhigh h
  have running {f : State → State} (hf : ∀ u, KeepsLines u (f u)) : PortsStand (whileRunning f s) := by
    obtain ⟨hports, hline⟩ := hf s
    rw [whileRunning_high f hhigh]
    exact portsStand_high (hline.trans hhigh) (by rwa [hports])
  cases hreader : readerOf c with
  | some r =>
    rcases exec_of_readerOf hreader s with hsame | ⟨code, args, length, act, hexec, hform⟩
    · exact ⟨s, hsame, stands⟩
    · exact ⟨_, hexec, portsStand_command hform r length hhigh h⟩
  | none =>
    cases c with
    | deviceReset => exact ⟨_, rfl, portsStand_inReset _ _⟩
    | resetRelease => exact ⟨_, rfl, by rwa [hhigh]⟩
    | tick => exact ⟨_, rfl, running fun u => ⟨by simp, by simp⟩⟩
    | holdExpiry r => exact ⟨_, rfl, running fun u => ⟨by simp, by simp⟩⟩
    | minimumHoldExpiry => exact ⟨_, rfl, running fun u => ⟨by simp, by simp⟩⟩
    | stretchExpiry => exact ⟨_, rfl, running fun u => ⟨by simp, by simp⟩⟩
    | refclkEdge => exact ⟨_, rfl, running fun u => ⟨by simp, by simp⟩⟩
    | refclkAbsent => exact ⟨_, rfl, running fun u => ⟨by simp, by simp⟩⟩
    | settleComplete => exact ⟨_, rfl, running fun u => ⟨by simp, by simp⟩⟩
    | startMark => exact ⟨_, rfl, running keepsLines_takeStartMark⟩
    | stopMark => exact ⟨_, rfl, running keepsLines_takeStopMark⟩
    | addressByte byte | headerByte byte | classByte byte | tagByte byte | triggerCheckByte byte | epochCheckByte byte =>
      exact ⟨_, rfl, running (keepsLines_receiveByte byte)⟩
    | holdingEntry => exact ⟨_, rfl, running fun u => ⟨by simp, by simp⟩⟩
    | epochReset => exact ⟨_, rfl, running keepsLines_takeEpochReset⟩
    | statusReadByte acknowledged => exact ⟨_, rfl, running (keepsLines_sendStatusByte acknowledged)⟩
    | transactionOpen r =>
      refine ⟨_, rfl, ?_⟩
      split
      · exact stands
      · exact portsStand_setPort hhigh rfl (portLegal_openPort r hhigh) h
    | transactionEnd r =>
      refine ⟨_, rfl, ?_⟩
      split
      · exact portsStand_setPort hhigh rfl (portLegal_idleAt _ _) h
      · exact stands
    | _ => cases hreader

/-- Settles O60: the hub in reset (`exec_inReset`) and the hub that runs (`exec_portsStand`), each with a byte time and with a command. -/
theorem stepKeepsPortsAndReset : Obligations.StepKeepsPortsAndReset := by
  intro s t hports hreset hstep
  suffices hstands : PortsStand t from ⟨hstands.legal, hstands.reset⟩
  unfold step at hstep
  cases hline : s.rstLow with
  | true =>
    have hs := hreset hline
    generalize s.pending = pending, csLevels s = csLow at hs
    subst hs
    cases pending with
    | nil =>
      obtain rfl : byteTime (State.inReset [] csLow) = t := by injection hstep
      exact portsStand_inReset [] csLow
    | cons c rest =>
      obtain ⟨u, hu, hstands⟩ := exec_inReset c rest csLow
      obtain rfl : u = t := by injection hu.symm.trans hstep
      exact hstands
  | false =>
    have hlegal (r : Reader) : portLegal false (s.ports.get r) := hline ▸ hports r
    split at hstep
    next =>
      obtain rfl : byteTime s = t := by injection hstep
      exact portsStand_high hline fun r => by rw [byteTime_ports_get]; exact portLegal_sendByte (hlegal r)
    next c rest _ =>
      obtain ⟨u, hu, hstands⟩ := exec_portsStand c (s := s.withPending rest) hline hlegal
      obtain rfl : u = t := by rw [hu] at hstep; injection hstep
      exact hstands

end Sys2Proof.Machine
end

section
/-! SUPPORT. The events of the trigger bus in the words of the statements (R80 to R92, R96): the fields of its bytes, the outcomes of a
frame, and each byte as its frame state judges it. -/

namespace Sys2Proof.Machine

/-! ### The fields of a byte (R7, R81, R83, R84, R96) -/

theorem addressOf_toNat (byte : Byte) : (addressOf byte).toNat = byte.toNat / 2 := by
  have hbyte := byte.isLt
  simp only [addressOf, BitVec.extractLsb'_toNat, Nat.shiftRight_eq_div_pow]
  omega

theorem addressOf_eq_iff (byte : Byte) (address : BitVec 7) : addressOf byte = address ↔ byte.toNat / 2 = address.toNat := by
  rw [← BitVec.toNat_inj, addressOf_toNat]

theorem isRead_iff (byte : Byte) : isRead byte = true ↔ byte.toNat % 2 = 1 := by
  simp [isRead, BitVec.getLsbD, Nat.testBit_zero]

/-- A trigger header has its type and low bits 0 (R83). -/
theorem headerKind_trigger_iff (byte : Byte) : headerKind byte = some .trigger ↔ byte &&& 0xC3 = 0 := by
  revert byte; decide

/-- An epoch header has type 1, and tag and low bits 0 (R83). -/
theorem headerKind_epoch_iff (byte : Byte) : headerKind byte = some .epoch ↔ byte &&& 0xE3 = 0x40 := by
  revert byte; decide

theorem classLow_eq_zero_iff (byte : Byte) : classLow byte = 0 ↔ byte &&& 0x0F = 0 := by
  revert byte; decide

/-- Two tag bytes are the tag, most significant first (R7). -/
theorem frameTag_of_two_bytes {f : Frame} {high low : Byte} (htagged : f.tagged = true) (hbytes : f.tagBytes = [high, low]) :
    frameTag f = some (high ++ low) := by
  have hvalue : high.setWidth 16 <<< 8 ||| low.setWidth 16 = high ++ low := by
    refine BitVec.eq_of_getLsbD_eq fun i hi => Eq.trans ?_ (BitVec.getLsbD_append (x := high) (y := low) (i := i)).symm
    by_cases hlow : i < 8
    · simp [hlow, hi]
    · simp [hlow, hi, BitVec.getLsbD_of_ge low i (by omega)]
  simp [frameTag, htagged, hbytes, hvalue]

theorem frameTag_untagged {f : Frame} (h : f.tagged = false) : frameTag f = none := by simp [frameTag, h]

theorem byteOfBits_high_half (b7 b6 b5 b4 : Bool) :
    byteOfBits b7 b6 b5 b4 false false false false =
      BitVec.ofNat 8 ((if b7 then 128 else 0) + (if b6 then 64 else 0) + (if b5 then 32 else 0) + (if b4 then 16 else 0)) := by
  revert b7 b6 b5 b4; decide

/-- The two bytes that a read of the own address latches (R96). -/
theorem triggerStatusBytes_eq (s : State) :
    triggerStatusBytes s =
      [BitVec.ofNat 8 ((if s.busy.output then 128 else 0) + (if s.numbering.epochPending then 64 else 0) +
        (if s.timebase.state = .settling then 32 else 0) + (if s.table.length = 64 then 16 else 0)),
       BitVec.ofNat 8 s.table.length] := by
  simp [triggerStatusBytes, byteOfBits_high_half, fill]

/-! ### The outcomes of a frame (R85, R88, R89, R91, R95) -/

theorem decideFrame_eq (answer : Response) (s : State) : decideFrame answer s = { s with trigger := passive answer s.trigger } := rfl

theorem badFrame_eq (s : State) :
    badFrame s = { s with trigger := passive .notAcknowledged s.trigger, counters := badFrameCounted s.counters } := rfl

theorem saturatingSucc_gap (gap : BitVec 8) : saturatingSucc gap = gapRaised gap := by
  unfold saturatingSucc gapRaised
  split
  next h => exact (if_pos h).symm ▸ h
  next h => exact (if_neg h).symm

theorem refuseFull_eq (s : State) :
    refuseFull s = { s with
      trigger := { passive .notAcknowledged s.trigger with gap := gapRaised s.trigger.gap }
      counters := { s.counters with refusedFull := s.counters.refusedFull + 1 } } := by
  rw [← saturatingSucc_gap]
  rfl

theorem refuseEpoch_eq (s : State) :
    refuseEpoch s = { s with
      trigger := { passive .notAcknowledged s.trigger with gap := gapRaised s.trigger.gap }
      counters := { s.counters with refusedEpoch := s.counters.refusedEpoch + 1 } } := by
  rw [← saturatingSucc_gap]
  rfl

theorem holdFrame_eq (s : State) :
    holdFrame s = { s with
      trigger := { s.trigger with
        state := .holding, stretchTimer := .running s.settings.stretchLimit, response := .clockHeld }
      counters := { s.counters with stretches := s.counters.stretches + 1 } } := rfl

/-- Settles O10: the held frame is refused as `refuseFull_eq` says. -/
theorem stretchExpiryRefusesTheHeldFrame : Obligations.StretchExpiryRefusesTheHeldFrame := by
  refine ⟨fun s hhigh hstate hdue => ?_, fun s hnot => ?_⟩
  · have hexpiry : takeStretchExpiry s = refuseFull s := if_pos ⟨hstate, hdue⟩
    rw [exec_stretchExpiry_running hhigh, hexpiry, refuseFull_eq]
  · have hexpiry : takeStretchExpiry s = s := if_neg hnot
    show Host.Outcome.next (whileRunning takeStretchExpiry s) = _
    simp [whileRunning, hexpiry]

/-! ### Marks (R80, R82, R86, R87) -/

theorem exec_startMark_running {s : State} (h : s.rstLow = false) : exec .startMark s = .next (takeStartMark s) :=
  congrArg Host.Outcome.next (whileRunning_high takeStartMark h)

theorem exec_stopMark_running {s : State} (h : s.rstLow = false) : exec .stopMark s = .next (takeStopMark s) :=
  congrArg Host.Outcome.next (whileRunning_high takeStopMark h)

theorem truncatable_iff (x : FrameState) :
    truncatable x = true ↔ x = .header ∨ x = .classByte ∨ x = .tag ∨ x = .check := by
  cases x <;> simp [truncatable]

theorem countTruncation_eq (s : State) :
    countTruncation s = s.withCounters
      (if s.trigger.state = .header ∨ s.trigger.state = .classByte ∨ s.trigger.state = .tag ∨ s.trigger.state = .check
      then badFrameCounted s.counters else s.counters) := by
  simp only [countTruncation, truncatable_iff]
  split <;> rfl

/-- Settles O15: outside HOLDING a mark counts a truncation (`countTruncation_eq`) and moves the port; in HOLDING none passes. -/
theorem marksOpenAndEndFrames : Obligations.MarksOpenAndEndFrames := by
  refine ⟨fun s => by simp [clockHeldLow], fun s hhigh => ⟨fun hfree => ?_, fun hheld => ?_⟩⟩ <;>
    rw [exec_startMark_running hhigh, exec_stopMark_running hhigh]
  · rw [takeStartMark, takeStopMark, if_neg hfree, if_neg hfree, countTruncation_eq]
    exact ⟨rfl, rfl⟩
  · rw [takeStartMark, takeStopMark, if_pos hheld, if_pos hheld]
    exact ⟨rfl, rfl⟩

/-! ### Which byte of a frame a byte is (R86, R90) -/

/-- The rows of the bytes of a frame. -/
def byteRows (byte : Byte) : List Instr :=
  [.addressByte byte, .headerByte byte, .classByte byte, .tagByte byte, .triggerCheckByte byte, .epochCheckByte byte]

/-- Every row hands its byte to the port (log entry 11). -/
theorem exec_byteRow {byte : Byte} {c : Instr} (h : c ∈ byteRows byte) {s : State} (hhigh : s.rstLow = false) :
    exec c s = .next (receiveByte byte s) := by
  have hexec : exec c s = .next (whileRunning (receiveByte byte) s) := by
    simp only [byteRows, List.mem_cons, List.not_mem_nil, or_false] at h
    rcases h with rfl | rfl | rfl | rfl | rfl | rfl <;> rfl
  rw [hexec, whileRunning_high _ hhigh]

theorem receiveByte_ignored {s : State} (h : s.trigger.state = .idle ∨ s.trigger.state = .passive) (byte : Byte) :
    receiveByte byte s = { s with trigger := { s.trigger with response := .notAcknowledged } } := by
  rcases h with h | h <;> simp [receiveByte, h, State.withTrigger]

theorem receiveByte_held {s : State} (h : s.trigger.state = .holding ∨ s.trigger.state = .sending) (byte : Byte) :
    receiveByte byte s = s := by
  rcases h with h | h <;> simp [receiveByte, h]

theorem receiveByte_address {s : State} (h : s.trigger.state = .address) (byte : Byte) :
    receiveByte byte s = judgeAddress byte s := by
  simp [receiveByte, h]

theorem receiveByte_header {s : State} (h : s.trigger.state = .header) (byte : Byte) :
    receiveByte byte s = judgeHeader byte s := by
  simp [receiveByte, h]

theorem receiveByte_classByte {s : State} (h : s.trigger.state = .classByte) (byte : Byte) :
    receiveByte byte s = judgeClass byte s := by
  simp [receiveByte, h]

theorem receiveByte_tag {s : State} (h : s.trigger.state = .tag) (byte : Byte) : receiveByte byte s = takeTagByte byte s := by
  simp [receiveByte, h]

theorem receiveByte_triggerCheck {s : State} (h : s.trigger.state = .check) (hkind : s.trigger.frame.kind = .trigger)
    (byte : Byte) : receiveByte byte s = judgeTriggerCheck byte s := by
  simp [receiveByte, h, hkind]

theorem receiveByte_epochCheck {s : State} (h : s.trigger.state = .check) (hkind : s.trigger.frame.kind = .epoch)
    (byte : Byte) : receiveByte byte s = judgeEpochCheck byte s := by
  simp [receiveByte, h, hkind]

/-! ### The address byte (R81) -/

/-- Settles O16, row by row: no captured address is the 0 of a broadcast, for BUS_ADDRESS begins at 0x08. -/
theorem addressByteIsJudged : Obligations.AddressByteIsJudged := by
  intro byte s hhigh hstate hlegal address read own first
  obtain ⟨-, hlowest, -⟩ := hlegal
  have hown : addressOf byte = s.trigger.capturedAddress ↔ own := addressOf_eq_iff byte _
  have hzero : addressOf byte = 0 ↔ address = 0 := addressOf_eq_iff byte 0
  have hread : isRead byte = true ↔ read := isRead_iff byte
  rw [exec_byteRow (byte := byte) (by simp [byteRows]) hhigh, receiveByte_address hstate]
  refine ⟨fun ho hr => ?_, fun ho hr => ?_, fun hz hr hb => ?_, fun ho hn => ?_⟩
  · rw [judgeAddress, if_pos (hown.mpr ho), if_neg (mt hread.mp hr)]
    rfl
  · rw [judgeAddress, if_pos (hown.mpr ho), if_pos (hread.mpr hr), triggerStatusBytes_eq]
    rfl
  · have hother : ¬own := by omega
    have hwrite : isRead byte = false := Bool.eq_false_iff.mpr (mt hread.mp hr)
    rw [judgeAddress, if_neg (mt hown.mp hother), if_pos ⟨hzero.mpr hz, hwrite, hb⟩]
    rfl
  · have hnobody : ¬(addressOf byte = 0 ∧ isRead byte = false ∧ s.trigger.capturedBroadcast = true) := by
      rintro ⟨hz, hwrite, hb⟩
      rcases hn with hn | hn | hn
      · exact hn (hzero.mp hz)
      · exact absurd (hread.mpr hn) (by simp [hwrite])
      · exact absurd hb (by simp [hn])
    rw [judgeAddress, if_neg (mt hown.mp ho), if_neg hnobody, decideFrame_eq]

/-! ### The header byte (R83) -/

/-- Settles O17, by the kind that the header opens. -/
theorem headerByteIsJudged : Obligations.HeaderByteIsJudged := by
  intro byte s hhigh hstate source
  rw [exec_byteRow (byte := byte) (by simp [byteRows]) hhigh, receiveByte_header hstate]
  refine ⟨fun htrigger => ?_, fun hepoch => ?_, fun hno hno' => ?_⟩
  · simp only [judgeHeader, (headerKind_trigger_iff byte).mpr htrigger]
    rfl
  · simp only [judgeHeader, (headerKind_epoch_iff byte).mpr hepoch]
    rfl
  · have hnone : headerKind byte = none := by
      cases hkind : headerKind byte with
      | none => rfl
      | some kind =>
        cases kind with
        | trigger => exact absurd ((headerKind_trigger_iff byte).mp hkind) hno
        | epoch => exact absurd ((headerKind_epoch_iff byte).mp hkind) hno'
    simp only [judgeHeader, hnone, badFrame_eq]

/-! ### Class and tag bytes (R7, R84, R86, R90) -/

/-- Settles O18: one meaning for all the rows (`exec_byteRow`), and the two bytes that gather class and tag. -/
theorem classAndTagBytesAreGathered : Obligations.ClassAndTagBytesAreGathered := by
  intro byte s hhigh
  refine ⟨fun c hc => ?_, fun hstate hgood => ?_, fun hstate hbad => ?_, fun hstate => ?_,
    fun high low htagged hbytes => frameTag_of_two_bytes htagged hbytes, fun huntagged => frameTag_untagged huntagged⟩
  · rw [exec_byteRow hc hhigh, exec_byteRow (byte := byte) (by simp [byteRows]) hhigh]
    refine ⟨rfl, fun h => ?_, fun h => ?_⟩
    · rw [receiveByte_ignored h]
    · rw [receiveByte_held h]
  · rw [exec_byteRow (byte := byte) (by simp [byteRows]) hhigh, receiveByte_classByte hstate, judgeClass,
      if_pos ((classLow_eq_zero_iff byte).mpr hgood)]
    rfl
  · rw [exec_byteRow (byte := byte) (by simp [byteRows]) hhigh, receiveByte_classByte hstate, judgeClass,
      if_neg (mt (classLow_eq_zero_iff byte).mp hbad), badFrame_eq]
  · rw [exec_byteRow (byte := byte) (by simp [byteRows]) hhigh, receiveByte_tag hstate]
    simp only [takeTagByte, List.isEmpty_iff]
    rfl

/-! ### Check bytes (R85, R88, R89, R121) -/

theorem sumRight_iff (byte : Byte) (s : State) : sumRight byte s = true ↔ s.trigger.frame.sum + byte = 0x5A := by
  simp [sumRight, Config.frameSum]

theorem judgeTriggerCheck_bad {byte : Byte} {s : State} (h : ¬s.trigger.frame.sum + byte = 0x5A) :
    judgeTriggerCheck byte s = badFrame s := by
  have hwrong : sumRight byte s = false := by simpa using mt (sumRight_iff byte s).mp h
  simp [judgeTriggerCheck, hwrong]

theorem judgeTriggerCheck_right {byte : Byte} {s : State} (h : s.trigger.frame.sum + byte = 0x5A) :
    judgeTriggerCheck byte s =
      if s.numbering.epochPending then refuseEpoch s
      else if s.table.length < 64 then acceptFrame s
      else if s.settings.stretchLimit = 0 then refuseFull s
      else holdFrame s := by
  have hright : sumRight byte s = true := (sumRight_iff byte s).mpr h
  rw [judgeTriggerCheck, hright]
  rfl

/-- Settles O19: the tests of R88 in their order. -/
theorem triggerCheckByteRefusesOrHolds : Obligations.TriggerCheckByteRefusesOrHolds := by
  intro byte s hhigh hstate hkind right refused
  rw [exec_byteRow (byte := byte) (by simp [byteRows]) hhigh, receiveByte_triggerCheck hstate hkind]
  refine ⟨fun hwrong => ?_, fun hright hpending => ?_, fun hright hfree hfull hnone => ?_, fun hright hfree hfull hsome => ?_⟩
  · rw [judgeTriggerCheck_bad hwrong, badFrame_eq]
  · rw [judgeTriggerCheck_right hright, if_pos hpending, refuseEpoch_eq]
  · rw [judgeTriggerCheck_right hright, if_neg (by simp [hfree]), if_neg (by omega), if_pos hnone, refuseFull_eq]
  · rw [judgeTriggerCheck_right hright, if_neg (by simp [hfree]), if_neg (by omega), if_neg (by omega), holdFrame_eq]

theorem judgeEpochCheck_bad {byte : Byte} {s : State} (h : ¬s.trigger.frame.sum + byte = 0x5A) :
    judgeEpochCheck byte s = badFrame s := by
  have hwrong : sumRight byte s = false := by simpa using mt (sumRight_iff byte s).mp h
  simp [judgeEpochCheck, hwrong]

theorem judgeEpochCheck_command {byte : Byte} {s : State} (h : s.trigger.frame.sum + byte = 0x5A)
    (hsource : s.settings.epochSource = .command) : judgeEpochCheck byte s = decideFrame .notAcknowledged s := by
  have hright : sumRight byte s = true := (sumRight_iff byte s).mpr h
  simp [judgeEpochCheck, hright, hsource]

theorem judgeEpochCheck_bus {byte : Byte} {s : State} (h : s.trigger.frame.sum + byte = 0x5A)
    (hsource : s.settings.epochSource = .bus) : judgeEpochCheck byte s = decideFrame .acknowledged (requestEpochReset s) := by
  have hright : sumRight byte s = true := (sumRight_iff byte s).mpr h
  simp [judgeEpochCheck, hright, hsource]

/-! An epoch reset request, case by case (R121). -/

theorem requestEpochReset_merged {s : State} (h : s.numbering.epochPending = true) : requestEpochReset s = s := if_pos h

theorem requestEpochReset_applied {s : State} (hfree : s.numbering.epochPending = false) (hempty : s.table = []) :
    requestEpochReset s = reevaluateBusy (applyEpochReset s) := by
  simp [requestEpochReset, hfree, hempty]

theorem requestEpochReset_pends {s : State} (hfree : s.numbering.epochPending = false) (hlive : s.table ≠ []) :
    requestEpochReset s = reevaluateBusy { s with numbering := { s.numbering with epochPending := true } } := by
  simp [requestEpochReset, hfree, hlive, State.withNumbering]

/-- Settles O21: the tests of R89 in their order, and the request by the cases of R121. -/
theorem epochCheckByteIsDecided : Obligations.EpochCheckByteIsDecided := by
  intro byte s hhigh hstate hkind right
  rw [exec_byteRow (byte := byte) (by simp [byteRows]) hhigh, receiveByte_epochCheck hstate hkind]
  refine ⟨fun hwrong => ?_, fun hright hsource => ?_, fun hright hsource hpending => ?_, fun hright hsource hfree hempty => ?_,
    fun hright hsource hfree hlive => ?_⟩
  · rw [judgeEpochCheck_bad hwrong, badFrame_eq]
  · rw [judgeEpochCheck_command hright hsource, decideFrame_eq]
  · rw [judgeEpochCheck_bus hright hsource, requestEpochReset_merged hpending, decideFrame_eq]
  · rw [judgeEpochCheck_bus hright hsource, requestEpochReset_applied hfree hempty, decideFrame_reevaluateBusy, applyEpochReset_eq]
    rfl
  · rw [judgeEpochCheck_bus hright hsource, requestEpochReset_pends hfree hlive, decideFrame_reevaluateBusy]
    rfl

/-! ### Status reads (R96) -/

theorem exec_statusReadByte_running (acknowledged : Bool) {s : State} (h : s.rstLow = false) :
    exec (.statusReadByte acknowledged) s = .next (sendStatusByte acknowledged s) :=
  congrArg Host.Outcome.next (whileRunning_high (sendStatusByte acknowledged) h)

theorem sendStatusByte_acknowledged {s : State} (h : s.trigger.state = .sending) :
    sendStatusByte true s = { s with
      trigger := { s.trigger with
        statusBytes := s.trigger.statusBytes.tail, response := .sent (s.trigger.statusBytes.headD 0) } } := if_pos h

theorem sendStatusByte_last {s : State} (h : s.trigger.state = .sending) :
    sendStatusByte false s = decideFrame (.sent (s.trigger.statusBytes.headD 0)) s := if_pos h

/-- Settles O22: the two outcomes of a byte in SENDING, and none outside it. -/
theorem statusReadSendsTheLatchedBytes : Obligations.StatusReadSendsTheLatchedBytes := by
  refine ⟨fun s hhigh hstate => ?_, fun acknowledged s hnot => ?_⟩
  · rw [exec_statusReadByte_running true hhigh, exec_statusReadByte_running false hhigh, sendStatusByte_acknowledged hstate,
      sendStatusByte_last hstate, decideFrame_eq]
    exact ⟨rfl, rfl⟩
  · have hnone : sendStatusByte acknowledged s = s := if_neg hnot
    show Host.Outcome.next (whileRunning (sendStatusByte acknowledged) s) = _
    simp [whileRunning, hnone]

end Sys2Proof.Machine
end

section
/-! SUPPORT. The timebase stays legal (R101, R104, R105, R106, R108, R110): what edges, ticks and settles do to it, event by event, and
the events that have no part in it. -/

namespace Sys2Proof.Machine

/-! ### A timebase and the edges of its tick -/

/-- The clauses of `timebaseLegal`, of a timebase whose tick is `perTick` edges of the selected reference. -/
structure Timebase.Legal (perTick : Nat) (t : Timebase) : Prop where
  settled      : t.state = .settled ↔ t.settleCounter = 0
  bounded      : t.settleCounter ≤ 65536
  present      : t.selection = .external → t.monitor = .present
  divider      : t.divider ≤ perTick
  monitorCount : t.monitorCount ≤ 64
  counted      : t.state = .settled ∨ t.selection = .external → t.uncounted = 0

theorem timebaseLegal_iff (s : State) : timebaseLegal s ↔ s.timebase.Legal (edgesPerTick s) := by
  constructor
  · rintro ⟨hsettled, hbounded, hpresent, hdivider, hcount, hcounted⟩
    exact ⟨hsettled, hbounded, hpresent, hdivider, hcount, hcounted⟩
  · rintro ⟨hsettled, hbounded, hpresent, hdivider, hcount, hcounted⟩
    exact ⟨hsettled, hbounded, hpresent, hdivider, hcount, hcounted⟩

/-- Where the timebase and its prescaler stay. -/
theorem timebaseLegal_of_eq {s t : State} (htime : t.timebase = s.timebase)
    (hprescale : t.settings.tickPrescale = s.settings.tickPrescale) (h : timebaseLegal s) : timebaseLegal t := by
  unfold timebaseLegal
  rwa [htime, hprescale]

/-- An edge of REFCLK shows it PRESENT (R104). -/
theorem Timebase.Legal.monitorEdge {perTick : Nat} {t : Timebase} (h : t.Legal perTick) : (monitorEdge t).Legal perTick :=
  { h with present := fun _ => rfl, monitorCount := Nat.zero_le _ }

theorem Timebase.Legal.monitorEdges {perTick : Nat} {t : Timebase} (h : t.Legal perTick) (n : Nat) :
    (monitorEdges n t).Legal perTick := by
  unfold Machine.monitorEdges
  split
  · exact h.monitorEdge
  · exact h

theorem Timebase.Legal.withDivider {p q : Nat} {t : Timebase} (h : t.Legal p) {n : Nat} (hn : n ≤ q) :
    ({ t with divider := n } : Timebase).Legal q :=
  { h with divider := hn }

theorem Timebase.Legal.advanceCount {p : Nat} {t : Timebase} (h : t.Legal p) : (advanceCount t).Legal p :=
  { h with divider := Nat.zero_le p }

/-- A completed settle has no cycle left, counted or not (R105). -/
theorem legal_completeSettle {perTick : Nat} {s : State} (h : s.timebase.Legal perTick) :
    (completeSettle s).timebase.Legal perTick := by
  rw [completeSettle_timebase]
  exact { h with settled := ⟨fun _ => rfl, fun _ => rfl⟩, bounded := Nat.zero_le _, counted := fun _ => rfl }

/-- Edges short of the settle's end leave cycles to count (R105). -/
theorem legal_settleEdges {perTick : Nat} {s : State} (n : Nat) (h : s.timebase.Legal perTick) :
    (settleEdges n s).timebase.Legal perTick := by
  unfold settleEdges
  split
  next hsettling =>
    split
    · exact legal_completeSettle h
    next hleft =>
      have hcounts : ¬ s.timebase.settleCounter - n = 0 := by omega
      have hbounded := h.bounded
      refine { h with settled := ⟨fun hsettled => ?_, fun hzero => absurd hzero hcounts⟩, bounded := ?_ }
      · exact absurd (hsettling.symm.trans hsettled) (by decide)
      · show s.timebase.settleCounter - n ≤ 65536
        omega
  · exact h

/-! ### Ticks -/

theorem legal_takeTick {perTick : Nat} {s : State} (h : s.timebase.Legal perTick) : (takeTick s).timebase.Legal perTick := by
  unfold takeTick countTick
  refine legal_settleEdges _ ?_
  rw [holdPulses_timebase, coarsePulse_timebase]
  refine Timebase.Legal.advanceCount (legal_settleEdges _ ?_)
  rw [State.withTimebase_timebase, takeDueEvents_timebase]
  exact h.monitorEdges _

theorem legal_takeDueTick {perTick : Nat} {s : State} (h : s.timebase.Legal perTick) :
    (takeDueTick s).timebase.Legal perTick := by
  unfold takeDueTick
  split
  · exact legal_takeTick h
  · exact h

theorem noTickDue_of_restarted {s : State} (h : s.timebase.divider = 0) : noTickDue s := by
  unfold noTickDue
  rw [h]
  exact Nat.two_pow_pos _

theorem tickDue_iff (s : State) : tickDue s = true ↔ ¬noTickDue s := decide_eq_true_iff.trans Nat.not_lt.symm

theorem takeDueTick_of_due {s : State} (h : ¬noTickDue s) : takeDueTick s = takeTick s := if_pos ((tickDue_iff s).mpr h)

/-- Once a due tick is taken, none is due (R101). -/
theorem noTickDue_takeDueTick (s : State) : noTickDue (takeDueTick s) := by
  by_cases h : noTickDue s
  · rwa [takeDueTick_of_noTickDue h]
  · rw [takeDueTick_of_due h]
    exact noTickDue_of_restarted (takeTick_divider s)

/-- No edge comes with a tick that was due, so the monitor stays (log entry 5). -/
theorem takeDueTick_monitor (s : State) : (takeDueTick s).timebase.monitor = s.timebase.monitor := by
  unfold takeDueTick
  split
  next hdue => exact takeTick_monitor_of_due hdue
  next => rfl

/-! ### The references (R104, R105, R108, R110) -/

/-- A settle lasts 4096 to 61,440 cycles (R107), and starts on EXTERNAL only while REFCLK is PRESENT (R108). -/
theorem legal_startSettle {perTick : Nat} {x : ReferenceSelection} {s : State}
    (hlength : 1 ≤ s.settings.settleLength ∧ s.settings.settleLength ≤ 15) (hx : x = .external → s.timebase.monitor = .present)
    (hcount : s.timebase.monitorCount ≤ 64) : (startSettle x s).timebase.Legal perTick := by
  obtain ⟨hshortest, hlongest⟩ := hlength
  have hcycles : (startSettle x s).timebase.settleCounter = s.settings.settleLength * 4096 := rfl
  refine ⟨⟨nofun, fun hzero => ?_⟩, ?_, hx, Nat.zero_le _, hcount, fun _ => rfl⟩ <;> omega

/-- An edge that finds no tick due leaves the divider within one tick (R101). -/
theorem legal_countRefclkEdge {s : State} (h : s.timebase.Legal (edgesPerTick s)) :
    (countRefclkEdge s).timebase.Legal (edgesPerTick s) := by
  unfold countRefclkEdge
  split
  · have hroom : noTickDue (takeDueTick s) := noTickDue_takeDueTick s
    unfold noTickDue at hroom
    rw [takeDueTick_settings] at hroom
    exact legal_settleEdges 1 ((legal_takeDueTick h).monitorEdge.withDivider hroom)
  · exact h.monitorEdge

theorem settleEndsBeforeTick_iff (s : State) :
    settleEndsBeforeTick s = true ↔ s.timebase.state = .settling ∧
      edgesToSettle s.timebase ≤ 2 ^ s.settings.tickPrescale - s.timebase.divider := by
  unfold settleEndsBeforeTick
  rw [Bool.and_eq_true_iff, beq_iff_eq, decide_eq_true_iff]
  rfl

/-- The edges of SETTLE_COMPLETE end with the next tick at the latest (R101). -/
theorem legal_takeSettleComplete {s : State} (h : s.timebase.Legal (edgesPerTick s)) :
    (takeSettleComplete s).timebase.Legal (edgesPerTick s) := by
  unfold takeSettleComplete
  dsimp only
  split
  next hends =>
    have htick := legal_takeDueTick h
    have hwithin := htick.divider
    obtain ⟨-, hedges⟩ := (settleEndsBeforeTick_iff _).mp hends
    rw [takeDueTick_settings] at hedges
    unfold edgesPerTick at hwithin ⊢
    exact legal_completeSettle ((htick.monitorEdges _).withDivider (by omega))
  · exact h

theorem legal_loseRefclk {s : State} (hlength : 1 ≤ s.settings.settleLength ∧ s.settings.settleLength ≤ 15)
    (h : s.timebase.Legal (edgesPerTick s)) : (loseRefclk s).timebase.Legal (edgesPerTick s) := by
  unfold loseRefclk
  split
  · unfold fallback
    rw [reevaluateBusy_timebase, State.withCounters_timebase, raiseFor_timebase]
    exact legal_startSettle (by simpa using hlength) nofun (Nat.le_refl 64)
  next hnot =>
    have hinternal : s.timebase.selection ≠ .external := fun hext => hnot ⟨h.present hext, hext⟩
    exact { h with present := fun hext => absurd hext hinternal, monitorCount := Nat.le_refl 64 }

theorem legal_switchReference {perTick : Nat} {x : ReferenceSelection} {s : State}
    (hlength : 1 ≤ s.settings.settleLength ∧ s.settings.settleLength ≤ 15) (hx : x = .external → s.timebase.monitor = .present)
    (h : s.timebase.Legal perTick) : (switchReference x s).timebase.Legal perTick := by
  unfold switchReference
  rw [reevaluateBusy_timebase]
  exact legal_startSettle (by simpa using hlength) (by rwa [takeDueTick_monitor]) (legal_takeDueTick h).monitorCount

/-- A switch to EXTERNAL is refused while REFCLK is ABSENT (R108). -/
theorem timebaseLegal_answerReference (r : Reader) (value : Byte) {s : State} (hsettings : settingsLegal s)
    (h : timebaseLegal s) : timebaseLegal (answerReference r value s).after := by
  obtain ⟨⟨-, -, -, -, -, -, -, -, hlength⟩, -⟩ := hsettings
  unfold answerReference
  split
  · exact h
  split
  · exact h
  next x _ =>
  split
  · exact h
  split
  · exact h
  next hpresent =>
    have hx : x = .external → s.timebase.monitor = .present := by
      intro hx
      cases hmonitor : s.timebase.monitor with
      | present => rfl
      | absent => exact absurd ⟨hx, hmonitor⟩ hpresent
    have hprescale : (switchReference x s).settings = s.settings := by simp [switchReference]
    refine (timebaseLegal_iff _).mpr ?_
    have hlegal := legal_switchReference hlength hx ((timebaseLegal_iff s).mp h)
    simpa [perform, edgesPerTick, hprescale] using hlegal

/-! ### Settings (R101, R162) -/

theorem storeSetting_tickPrescale {x : Setting} (h : x ≠ .shared .tickPrescale) (v : Value16) (s : State) :
    (storeSetting x v s).settings.tickPrescale = s.settings.tickPrescale := by
  cases x with
  | ofReader r y => rfl
  | shared y =>
    cases y with
    | tickPrescale => exact absurd rfl h
    | _ => rfl

/-- A write of TICK_PRESCALE notes uncounted cycles in a settle on the internal reference alone (log entry 5). -/
theorem legal_restartDivider {p q : Nat} {s : State} (h : s.timebase.Legal p) : (restartDivider s).timebase.Legal q := by
  have htick := legal_takeDueTick h
  refine { htick with divider := Nat.zero_le q, counted := fun hwhere => ?_ }
  have hnot : ¬((takeDueTick s).timebase.state = .settling ∧ (takeDueTick s).timebase.selection = .internal) := by
    rintro ⟨hsettling, hinternal⟩
    rcases hwhere with hsettled | hexternal
    · exact absurd (hsettling.symm.trans hsettled) (by decide)
    · exact absurd (hinternal.symm.trans hexternal) (by decide)
  exact (if_neg hnot).trans (htick.counted hwhere)

theorem timebaseLegal_writeSetting (x : Setting) (v : Value16) {s : State} (h : timebaseLegal s) :
    timebaseLegal (writeSetting x v s) := by
  unfold writeSetting
  dsimp only
  split
  · refine (timebaseLegal_iff _).mpr ?_
    rw [applySetting_timebase, storeSetting_timebase]
    exact legal_restartDivider ((timebaseLegal_iff s).mp h)
  next hx =>
    refine timebaseLegal_of_eq (by simp) ?_ h
    rw [applySetting_settings, storeSetting_tickPrescale hx]

theorem timebaseLegal_answerSet (r : Reader) (id : Byte) (v : Value16) {s : State} (h : timebaseLegal s) :
    timebaseLegal (answerSet r id v s).after := by
  unfold answerSet
  split
  · exact h
  split
  · exact h
  split
  · exact timebaseLegal_writeSetting _ v h
  · exact h

/-! ### Events without a part in the timebase -/

/-- The timebase stays, and so do the settings but for a SET. -/
theorem KeepsConfig.timebaseLegal {s t : State} (hkeeps : KeepsConfig s t) (htime : t.timebase = s.timebase)
    (h : timebaseLegal s) : timebaseLegal t :=
  timebaseLegal_of_eq htime (by rw [hkeeps.shared]) h

@[simp] theorem countTruncation_timebase (s : State) : (countTruncation s).timebase = s.timebase := by
  unfold countTruncation; split <;> rfl
@[simp] theorem takeStartMark_timebase (s : State) : (takeStartMark s).timebase = s.timebase := by
  unfold takeStartMark; split <;> simp
@[simp] theorem takeStopMark_timebase (s : State) : (takeStopMark s).timebase = s.timebase := by
  unfold takeStopMark; split <;> simp
@[simp] theorem judgeAddress_timebase (byte : Byte) (s : State) : (judgeAddress byte s).timebase = s.timebase := by
  unfold judgeAddress; (repeat' split) <;> rfl
@[simp] theorem judgeHeader_timebase (byte : Byte) (s : State) : (judgeHeader byte s).timebase = s.timebase := by
  unfold judgeHeader; dsimp only; split <;> rfl
@[simp] theorem judgeClass_timebase (byte : Byte) (s : State) : (judgeClass byte s).timebase = s.timebase := by
  unfold judgeClass; dsimp only; split <;> rfl
@[simp] theorem judgeTriggerCheck_timebase (byte : Byte) (s : State) : (judgeTriggerCheck byte s).timebase = s.timebase := by
  unfold judgeTriggerCheck; (repeat' split) <;> simp
@[simp] theorem judgeEpochCheck_timebase (byte : Byte) (s : State) : (judgeEpochCheck byte s).timebase = s.timebase := by
  unfold judgeEpochCheck; (repeat' split) <;> simp
@[simp] theorem sendStatusByte_timebase (acknowledged : Bool) (s : State) :
    (sendStatusByte acknowledged s).timebase = s.timebase := by
  unfold sendStatusByte; (repeat' split) <;> rfl

@[simp] theorem receiveByte_timebase (byte : Byte) (s : State) : (receiveByte byte s).timebase = s.timebase := by
  unfold receiveByte
  split
  · rfl
  · rfl
  · exact judgeAddress_timebase byte s
  · exact judgeHeader_timebase byte s
  · exact judgeClass_timebase byte s
  · rfl
  · split
    · exact judgeTriggerCheck_timebase byte s
    · exact judgeEpochCheck_timebase byte s
  · rfl
  · rfl

theorem takeEpochReset_timebase (s : State) :
    (if s.numbering.epochPending && s.table.isEmpty then reevaluateBusy (applyEpochReset s) else s).timebase = s.timebase := by
  split <;> simp

/-- The answer of a reader command leaves the timebase and the settings alone. -/
structure KeepsTime (act : State → Answer) : Prop where
  timebase : ∀ s, (act s).after.timebase = s.timebase
  config   : ∀ s, KeepsConfig s (act s).after

theorem keepsTime_report (f : State → List Byte) : KeepsTime fun s => perform (f s) s := ⟨fun _ => rfl, .refl⟩
theorem keepsTime_refuse (c : StatusCode) : KeepsTime (refuse c) := ⟨fun _ => rfl, .refl⟩
theorem keepsTime_causes (r : Reader) : KeepsTime (answerCauses r) := ⟨fun _ => rfl, keepsConfig_answerCauses r⟩
theorem keepsTime_take (r : Reader) : KeepsTime (answerTake r) := by
  refine ⟨fun s => ?_, keepsConfig_answerTake r⟩
  unfold answerTake; dsimp only; (repeat' split) <;> rfl
theorem keepsTime_release (r : Reader) (id : Identity) : KeepsTime (answerRelease r id) := by
  refine ⟨fun s => ?_, keepsConfig_answerRelease r id⟩
  unfold answerRelease; dsimp only; (repeat' split) <;> simp [perform, refuse]
theorem keepsTime_releaseOldest (r : Reader) : KeepsTime (answerReleaseOldest r) := by
  refine ⟨fun s => ?_, keepsConfig_answerReleaseOldest r⟩
  unfold answerReleaseOldest; dsimp only; (repeat' split) <;> simp [perform, refuse]
theorem keepsTime_attach (r : Reader) : KeepsTime (answerAttach r) := by
  refine ⟨fun s => ?_, keepsConfig_answerAttach r⟩
  unfold answerAttach; split <;> simp [perform, refuse]
theorem keepsTime_detach (r : Reader) : KeepsTime (answerDetach r) := by
  refine ⟨fun s => ?_, keepsConfig_answerDetach r⟩
  unfold answerDetach; split <;> simp [perform, refuse]
theorem keepsTime_resume (r : Reader) : KeepsTime (answerResume r) := by
  refine ⟨fun s => ?_, keepsConfig_answerResume r⟩
  unfold answerResume; split <;> simp [perform, refuse]
theorem keepsTime_declareBusy (r : Reader) (value : Byte) : KeepsTime (answerDeclareBusy r value) := by
  refine ⟨fun s => ?_, keepsConfig_answerDeclareBusy r value⟩
  unfold answerDeclareBusy; dsimp only; (repeat' split) <;> simp [perform, refuse]
theorem keepsTime_readerReset (r : Reader) : KeepsTime (answerReaderReset r) :=
  ⟨fun s => by simp [answerReaderReset, perform, freeTokenOf_eq], keepsConfig_answerReaderReset r⟩
theorem keepsTime_claim (r : Reader) : KeepsTime (answerClaim r) := by
  refine ⟨fun s => ?_, keepsConfig_answerClaim r⟩
  unfold answerClaim; (repeat' split) <;> rfl
theorem keepsTime_yield (r : Reader) : KeepsTime (answerYield r) := by
  refine ⟨fun s => ?_, keepsConfig_answerYield r⟩
  unfold answerYield; split <;> rfl
theorem keepsTime_get (id : Byte) : KeepsTime (answerGet id) := by
  refine ⟨fun s => ?_, keepsConfig_answerGet id⟩
  unfold answerGet; split <;> rfl
theorem keepsTime_ruleRead (index : Byte) : KeepsTime (answerRuleRead index) := by
  refine ⟨fun s => ?_, keepsConfig_answerRuleRead index⟩
  unfold answerRuleRead; split <;> rfl
theorem keepsTime_epoch (r : Reader) : KeepsTime (answerEpoch r) := by
  refine ⟨fun s => ?_, keepsConfig_answerEpoch r⟩
  unfold answerEpoch; (repeat' split) <;> simp [perform, refuse]
theorem keepsTime_clear (r : Reader) : KeepsTime (answerClear r) := by
  refine ⟨fun s => ?_, keepsConfig_answerClear r⟩
  unfold answerClear hubClear emptyHub; dsimp only; (repeat' split) <;> simp [perform, refuse]
theorem keepsTime_counter (r : Reader) (index form : Byte) : KeepsTime (answerCounter r index form) := by
  refine ⟨fun s => ?_, keepsConfig_answerCounter r index form⟩
  unfold answerCounter; (repeat' split) <;> rfl
theorem keepsTime_clearCounters (r : Reader) : KeepsTime (answerClearCounters r) := by
  refine ⟨fun s => ?_, keepsConfig_answerClearCounters r⟩
  unfold answerClearCounters; split <;> rfl

/-- RULE_WRITE writes a rule, and no setting (R36). -/
theorem timebaseLegal_answerRuleWrite (r : Reader) (index enable pattern mask sets interval : Byte) {s : State}
    (h : timebaseLegal s) : timebaseLegal (answerRuleWrite r index enable pattern mask sets interval s).after := by
  unfold answerRuleWrite; (repeat' split) <;> exact h

/-! ### Every step -/

theorem timebaseLegal_inReset (pending : List Instr) (csLow : PerReader Bool) : timebaseLegal (State.inReset pending csLow) :=
  timebaseLegal_reset

theorem timebaseLegal_whileRunning {f : State → State} {s : State} (hf : timebaseLegal (f s)) (h : timebaseLegal s) :
    timebaseLegal (whileRunning f s) := by
  unfold whileRunning
  split
  · exact h
  · exact hf

/-- An event that moves the timebase alone answers for it in the ticks of the prescaler as it stands. -/
theorem timebaseLegal_event {f : State → State} {s : State}
    (hf : s.timebase.Legal (edgesPerTick s) → (f s).timebase.Legal (edgesPerTick s)) (hsettings : (f s).settings = s.settings)
    (h : timebaseLegal s) : timebaseLegal (whileRunning f s) := by
  refine timebaseLegal_whileRunning ((timebaseLegal_iff _).mpr ?_) h
  have hperTick : edgesPerTick (f s) = edgesPerTick s := by simp [edgesPerTick, hsettings]
  rw [hperTick]
  exact hf ((timebaseLegal_iff s).mp h)

/-- A reader command does to the timebase what its answer does. -/
theorem timebaseLegal_command {act : State → Answer} {s : State} (hact : timebaseLegal (act s).after) (r : Reader) (code : Byte)
    (args : List Byte) (length : Nat) (h : timebaseLegal s) : timebaseLegal (command r code args length act s) := by
  unfold command
  split
  · exact hact
  · exact h

theorem KeepsTime.timebaseLegal {act : State → Answer} (hact : KeepsTime act) (r : Reader) (code : Byte) (args : List Byte)
    (length : Nat) {s : State} (h : timebaseLegal s) : timebaseLegal (command r code args length act s) :=
  timebaseLegal_command ((hact.config s).timebaseLegal (hact.timebase s) h) r code args length h

theorem timebaseLegal_setCommand (r : Reader) (id : Byte) (v : Value16) {s : State} (h : timebaseLegal s) :
    timebaseLegal (setCommand r id v s) :=
  timebaseLegal_command (timebaseLegal_answerSet r id v h) r _ _ _ h

theorem exec_timebaseLegal (c : Instr) {s : State} (hsettings : settingsLegal s) (h : timebaseLegal s) :
    ∃ t, exec c s = .next t ∧ timebaseLegal t := by
  have hlength : 1 ≤ s.settings.settleLength ∧ s.settings.settleLength ≤ 15 := by
    obtain ⟨⟨-, -, -, -, -, -, -, -, hlength⟩, -⟩ := hsettings
    exact hlength
  have apart {f : State → State} (hkeeps : ∀ u, KeepsConfig u (f u)) (htime : ∀ u, (f u).timebase = u.timebase) :
      timebaseLegal (whileRunning f s) :=
    timebaseLegal_whileRunning ((hkeeps s).timebaseLegal (htime s) h) h
  cases c with
  | deviceReset => exact ⟨_, rfl, timebaseLegal_inReset _ _⟩
  | resetRelease =>
    exact ⟨_, rfl, (keepsConfig_resetRelease s).timebaseLegal (by split <;> simp) h⟩
  | tick => exact ⟨_, rfl, timebaseLegal_event legal_takeTick (takeTick_settings s) h⟩
  | holdExpiry r => exact ⟨_, rfl, apart (keepsConfig_takeHoldExpiry r) (takeHoldExpiry_timebase r)⟩
  | minimumHoldExpiry => exact ⟨_, rfl, apart keepsConfig_takeMinimumHoldExpiry takeMinimumHoldExpiry_timebase⟩
  | stretchExpiry => exact ⟨_, rfl, apart keepsConfig_takeStretchExpiry takeStretchExpiry_timebase⟩
  | refclkEdge => exact ⟨_, rfl, timebaseLegal_event legal_countRefclkEdge (countRefclkEdge_settings s) h⟩
  | refclkAbsent => exact ⟨_, rfl, timebaseLegal_event (legal_loseRefclk hlength) (loseRefclk_settings s) h⟩
  | settleComplete => exact ⟨_, rfl, timebaseLegal_event legal_takeSettleComplete (takeSettleComplete_settings s) h⟩
  | startMark => exact ⟨_, rfl, apart keepsConfig_takeStartMark takeStartMark_timebase⟩
  | stopMark => exact ⟨_, rfl, apart keepsConfig_takeStopMark takeStopMark_timebase⟩
  | addressByte byte | headerByte byte | classByte byte | tagByte byte | triggerCheckByte byte | epochCheckByte byte =>
    exact ⟨_, rfl, apart (keepsConfig_receiveByte byte) (receiveByte_timebase byte)⟩
  | holdingEntry => exact ⟨_, rfl, apart keepsConfig_retryHeldFrame retryHeldFrame_timebase⟩
  | epochReset => exact ⟨_, rfl, apart keepsConfig_takeEpochReset takeEpochReset_timebase⟩
  | statusReadByte acknowledged =>
    exact ⟨_, rfl, apart (keepsConfig_sendStatusByte acknowledged) (sendStatusByte_timebase acknowledged)⟩
  | transactionOpen r | transactionEnd r => exact ⟨_, rfl, by split <;> exact h⟩
  | badCommand r code => exact ⟨_, rfl, by split; exacts [h, (keepsTime_refuse _).timebaseLegal r _ _ _ h]⟩
  | status r => exact ⟨_, rfl, (keepsTime_report _).timebaseLegal r _ _ _ h⟩
  | time r => exact ⟨_, rfl, (keepsTime_report _).timebaseLegal r _ _ _ h⟩
  | causes r => exact ⟨_, rfl, (keepsTime_causes r).timebaseLegal r _ _ _ h⟩
  | take r => exact ⟨_, rfl, (keepsTime_take r).timebaseLegal r _ _ _ h⟩
  | release r epoch number => exact ⟨_, rfl, (keepsTime_release r _).timebaseLegal r _ _ _ h⟩
  | releaseOldest r => exact ⟨_, rfl, (keepsTime_releaseOldest r).timebaseLegal r _ _ _ h⟩
  | held r => exact ⟨_, rfl, (keepsTime_report _).timebaseLegal r _ _ _ h⟩
  | attach r => exact ⟨_, rfl, (keepsTime_attach r).timebaseLegal r _ _ _ h⟩
  | detach r => exact ⟨_, rfl, (keepsTime_detach r).timebaseLegal r _ _ _ h⟩
  | resume r => exact ⟨_, rfl, (keepsTime_resume r).timebaseLegal r _ _ _ h⟩
  | declareBusy r value => exact ⟨_, rfl, (keepsTime_declareBusy r value).timebaseLegal r _ _ _ h⟩
  | readerReset r => exact ⟨_, rfl, (keepsTime_readerReset r).timebaseLegal r _ _ _ h⟩
  | claim r => exact ⟨_, rfl, (keepsTime_claim r).timebaseLegal r _ _ _ h⟩
  | yield r => exact ⟨_, rfl, (keepsTime_yield r).timebaseLegal r _ _ _ h⟩
  | set r id value | setBusyHigh r value | setBusyLow r value | setForceBusy r value | setSettleBusy r value
  | setTickPrescale r value | setRunNumber r value | setAttnMask r target value =>
    exact ⟨_, rfl, timebaseLegal_setCommand r _ value h⟩
  | get r id => exact ⟨_, rfl, (keepsTime_get id).timebaseLegal r _ _ _ h⟩
  | ruleWrite r index enable pattern mask sets interval =>
    exact ⟨_, rfl, timebaseLegal_command (timebaseLegal_answerRuleWrite r index enable pattern mask sets interval h) r _ _ _ h⟩
  | ruleRead r index => exact ⟨_, rfl, (keepsTime_ruleRead index).timebaseLegal r _ _ _ h⟩
  | epoch r => exact ⟨_, rfl, (keepsTime_epoch r).timebaseLegal r _ _ _ h⟩
  | clear r => exact ⟨_, rfl, (keepsTime_clear r).timebaseLegal r _ _ _ h⟩
  | reference r value => exact ⟨_, rfl, timebaseLegal_command (timebaseLegal_answerReference r value hsettings h) r _ _ _ h⟩
  | counter r index form => exact ⟨_, rfl, (keepsTime_counter r index form).timebaseLegal r _ _ _ h⟩
  | clearCounters r => exact ⟨_, rfl, (keepsTime_clearCounters r).timebaseLegal r _ _ _ h⟩

/-- Settles O58: a byte time has no part in the timebase, and every command keeps it legal. -/
theorem stepKeepsTimebaseLegal : Obligations.StepKeepsTimebaseLegal := by
  intro s t hsettings htimebase hstep
  unfold step at hstep
  split at hstep
  next =>
    obtain rfl : byteTime s = t := by injection hstep
    exact htimebase
  next c rest _ =>
    obtain ⟨u, hu, hlegal⟩ := exec_timebaseLegal c (s := s.withPending rest) hsettings htimebase
    obtain rfl : u = t := by rw [hu] at hstep; injection hstep
    exact hlegal

end Sys2Proof.Machine
end

section
/-! SUPPORT. The events of the timebase and of its references in the words of the statements (R100, R101, R104, R105, R108, R110, R113):
what each does with no tick due, and that a due tick is taken before it. -/

namespace Sys2Proof.Machine

/-! ### The commands while RST_N is high -/

theorem exec_refclkEdge_running {s : State} (h : s.rstLow = false) : exec .refclkEdge s = .next (countRefclkEdge s) :=
  congrArg Host.Outcome.next (whileRunning_high countRefclkEdge h)

theorem exec_refclkAbsent_running {s : State} (h : s.rstLow = false) : exec .refclkAbsent s = .next (loseRefclk s) :=
  congrArg Host.Outcome.next (whileRunning_high loseRefclk h)

theorem exec_settleComplete_running {s : State} (h : s.rstLow = false) :
    exec .settleComplete s = .next (takeSettleComplete s) :=
  congrArg Host.Outcome.next (whileRunning_high takeSettleComplete h)

theorem exec_reference {r : Reader} {s : State} (htakes : takesCommand r s) (value : Byte) :
    exec (.reference r value) s = .next (answered r 0x3A [value] (answerReference r value s).status
      (replyBytes 0 (answerReference r value s)) (answerReference r value s).after) := by
  have hexec : exec (.reference r value) s = .next (command r 0x3A [value] 0 (answerReference r value) s) := rfl
  rw [hexec, command_answered (keeps_reference r value) htakes 0x3A [value] rfl]

/-! ### A due tick (R101; log entry 5) -/

/-- A due tick, taken by its own command, is not taken again. -/
theorem takeDueTick_takeTick_of_due {s : State} (h : ¬noTickDue s) : takeDueTick (takeTick s) = takeDueTick s := by
  rw [takeDueTick_of_due h, takeDueTick_of_noTickDue (noTickDue_of_restarted (takeTick_divider s))]

theorem takeTick_monitor_of_not_noTickDue {s : State} (h : ¬noTickDue s) :
    (takeTick s).timebase.monitor = s.timebase.monitor := takeTick_monitor_of_due ((tickDue_iff s).mpr h)

/-! ### TICK (R100, R101) -/

/-- Settles O5: `takeTick_count` and `takeTick_divider`, and the blocks that a tick leaves alone. -/
theorem tickAdvancesTheCount : Obligations.TickAdvancesTheCount := by
  refine ⟨fun s hhigh => ⟨takeTick s, exec_tick_running hhigh, takeTick_count s, fun hlast => ?_, takeTick_divider s,
    takeTick_settings s, takeTick_token s, takeTick_ports s, ?_⟩, fun s hlow => ?_⟩
  · rw [takeTick_count, hlast]
    rfl
  · rw [takeTick_rstLow, hhigh]
  · exact congrArg Host.Outcome.next (whileRunning_low takeTick hlow)

/-! ### REFCLK_EDGE (R101, R104, R105) -/

theorem countRefclkEdge_internal {s : State} (h : s.timebase.selection = .internal) :
    countRefclkEdge s = s.withTimebase (monitorEdge s.timebase) := by
  simp [countRefclkEdge, h]

theorem countRefclkEdge_external {s : State} (h : s.timebase.selection = .external) :
    countRefclkEdge s = settledBy 1 ((takeDueTick s).withTimebase
      { monitorEdge (takeDueTick s).timebase with divider := (takeDueTick s).timebase.divider + 1 }) :=
  (if_pos h).trans (settleEdges_eq 1 _)

theorem settledBy_settled {s : State} (h : s.timebase.state = .settled) (n : Nat) : settledBy n s = s := by
  simp [settledBy, h]

theorem settledBy_completes {s : State} {n : Nat} (h : s.timebase.state = .settling) (hn : s.timebase.settleCounter ≤ n) :
    settledBy n s = settleDone s := by
  simp [settledBy, h, hn]

theorem settledBy_counts {s : State} {n : Nat} (h : s.timebase.state = .settling) (hn : n < s.timebase.settleCounter) :
    settledBy n s = { s with timebase := { s.timebase with settleCounter := s.timebase.settleCounter - n } } := by
  simp [settledBy, h, Nat.not_le.mpr hn]

/-- Settles O12: with EXTERNAL selected the edge is `settledBy 1`, by the settle's state and counter, after a due tick. -/
theorem refclkEdgeIsSeen : Obligations.RefclkEdgeIsSeen := by
  intro s hhigh seen
  refine ⟨fun hinternal => ?_, fun hexternal hnone => ?_, fun hexternal hdue => ⟨takeTick s, exec_tick_running hhigh, ?_⟩⟩
  · rw [exec_refclkEdge_running hhigh, countRefclkEdge_internal hinternal]
    rfl
  · intro u
    have hedge : countRefclkEdge s = settledBy 1 u := by
      rw [countRefclkEdge_external hexternal, takeDueTick_of_noTickDue hnone]
      rfl
    rw [exec_refclkEdge_running hhigh, hedge]
    refine ⟨fun hsettled => ?_, fun hsettling hlast => ?_, fun hsettling hmore => ?_⟩
    · rw [settledBy_settled (s := u) hsettled]
    · rw [settledBy_completes (s := u) hsettling hlast]
    · rw [settledBy_counts (s := u) hsettling hmore]
  · rw [exec_refclkEdge_running hhigh, exec_refclkEdge_running (by rw [takeTick_rstLow, hhigh]),
      countRefclkEdge_external hexternal, countRefclkEdge_external (by rw [takeTick_selection, hexternal]),
      takeDueTick_takeTick_of_due hdue]

/-! ### Whether a settle can end with the next tick at the latest (R101, R105, R107) -/

/-- The edges that must still come are no more than those up to the next tick, in a settle. -/
def settleCanEnd (s : State) : Prop :=
  s.timebase.state = .settling ∧
    s.timebase.settleCounter - s.timebase.uncounted ≤ 2 ^ s.settings.tickPrescale - s.timebase.divider

theorem takeSettleComplete_ends {s : State} (h : settleCanEnd (takeDueTick s)) :
    takeSettleComplete s = finishSettle (takeDueTick s) := if_pos ((settleEndsBeforeTick_iff _).mpr h)

theorem takeSettleComplete_stays {s : State} (h : ¬settleCanEnd (takeDueTick s)) : takeSettleComplete s = s :=
  if_neg fun hends => h ((settleEndsBeforeTick_iff _).mp hends)

theorem finishSettle_eq (s : State) :
    finishSettle s =
      let edges := s.timebase.settleCounter - s.timebase.uncounted
      settleDone { s with timebase := { seenBy edges s.timebase with divider := s.timebase.divider + edges } } :=
  completeSettle_eq _

/-- A due tick finds no edge left, and leaves a settle that has cycles to count as it was, at the start of the next tick. -/
theorem settleCanEnd_takeTick {s : State} (hdue : ¬noTickDue s)
    (h : s.timebase.state = .settled ∨ 0 < s.timebase.settleCounter) :
    settleCanEnd (takeTick s) ↔ s.timebase.state = .settling ∧
      s.timebase.settleCounter - s.timebase.uncounted ≤ 2 ^ s.settings.tickPrescale := by
  unfold settleCanEnd
  rw [takeTick_timebase_of_due ((tickDue_iff s).mpr hdue) h, takeTick_settings]
  rfl

/-- A new settle is longer than any tick, for TICK_PRESCALE is at most 7 (R101, R107). -/
theorem settleCanEnd_settleStarted {x : ReferenceSelection} {t : Timebase} {s : State} (hlegal : s.settings.Legal)
    (h : s.timebase = settleStarted x t s.settings) : ¬settleCanEnd s := by
  obtain ⟨-, -, -, -, -, -, -, hprescale, hshortest, -⟩ := hlegal
  have htick : 2 ^ s.settings.tickPrescale ≤ 2 ^ 7 := Nat.pow_le_pow_right (by decide) hprescale
  rintro ⟨-, hends⟩
  simp only [h, settleStarted] at hends
  omega

/-! ### REFCLK_ABSENT (R104, R110, R111) -/

theorem loseRefclk_unselected {s : State} (h : ¬(s.timebase.monitor = .present ∧ s.timebase.selection = .external)) :
    loseRefclk s = monitorExpires s := if_neg h

theorem loseRefclk_selected {s : State} (hpresent : s.timebase.monitor = .present) (hexternal : s.timebase.selection = .external) :
    loseRefclk s = fallback (monitorExpires (takeDueTick s)) := if_pos ⟨hpresent, hexternal⟩

/-- The hub's own switch in the words of the statements (R110). -/
theorem fallback_eq (s : State) :
    fallback s = reevaluateBusy (causesFor (fun _ => true) 0x040 { s with
      timebase := settleStarted .internal s.timebase s.settings
      counters := { s.counters with referenceLosses := s.counters.referenceLosses + 1 } }) := by
  unfold fallback
  dsimp only
  rw [raiseFor_eq_causesFor ReaderSet.get_all]
  rfl

theorem fallback_timebase (s : State) : (fallback s).timebase = settleStarted .internal s.timebase s.settings := by
  rw [fallback_eq, reevaluateBusy_timebase]
  rfl

/-- Settles O13: `fallback_eq` after a due tick, and a new settle that SETTLE_COMPLETE cannot end (`settleCanEnd_settleStarted`). -/
theorem refclkAbsenceFallsBack : Obligations.RefclkAbsenceFallsBack := by
  intro s hhigh gone
  refine ⟨fun hnot => ?_, fun hpresent hexternal hnone => ?_,
    fun hpresent hexternal hdue => ⟨takeTick s, exec_tick_running hhigh, ?_⟩, fun hpresent hexternal hlegal => ?_⟩
  · rw [exec_refclkAbsent_running hhigh, loseRefclk_unselected hnot]
    rfl
  · rw [exec_refclkAbsent_running hhigh, loseRefclk_selected hpresent hexternal, takeDueTick_of_noTickDue hnone, fallback_eq]
    rfl
  · rw [exec_refclkAbsent_running hhigh, exec_refclkAbsent_running (by rw [takeTick_rstLow, hhigh]),
      loseRefclk_selected hpresent hexternal,
      loseRefclk_selected (by rw [takeTick_monitor_of_not_noTickDue hdue, hpresent]) (by rw [takeTick_selection, hexternal]),
      takeDueTick_takeTick_of_due hdue]
  · have hsettings : (loseRefclk s).settings = s.settings := loseRefclk_settings s
    have hstarted : (loseRefclk s).timebase =
        settleStarted .internal (monitorExpires (takeDueTick s)).timebase (loseRefclk s).settings := by
      rw [hsettings, loseRefclk_selected hpresent hexternal, fallback_timebase, monitorExpires_settings, takeDueTick_settings]
    have hnone : noTickDue (loseRefclk s) := noTickDue_of_restarted (by rw [hstarted]; rfl)
    have hgoes : ¬settleCanEnd (takeDueTick (loseRefclk s)) := by
      rw [takeDueTick_of_noTickDue hnone]
      exact settleCanEnd_settleStarted (by rwa [hsettings]) hstarted
    refine ⟨loseRefclk s, exec_refclkAbsent_running hhigh, by rw [hstarted]; rfl, ?_⟩
    rw [exec_settleComplete_running (by rw [loseRefclk_rstLow, hhigh]), takeSettleComplete_stays hgoes]

/-! ### SETTLE_COMPLETE (R105, R141) -/

/-- The last cycle of the settle after reset: the coarse pulse of the next tick and the completion fall on one edge (R141). -/
def lastCycleOfReset : State :=
  { State.reset with
    timebase := { State.reset.timebase with count := 65535, settleCounter := 1 }
    busy := { State.reset.busy with minimumHold := .elapsed }
    counters := { State.reset.counters with busyTicks := 255 } }

theorem pulse_before_completion :
    (afterCommands [.tick, .settleComplete] lastCycleOfReset).counters.busyTicks = 256 ∧
      (afterCommands [.tick, .settleComplete] lastCycleOfReset).busy.output = false := by decide

theorem completion_before_pulse :
    (afterCommands [.settleComplete, .tick] lastCycleOfReset).counters.busyTicks = 255 ∧
      (afterCommands [.settleComplete, .tick] lastCycleOfReset).busy.output = false := by decide

/-- Settles O11: the settle ends where `settleCanEnd` holds once a due tick is taken, and both orders of R141 are run. -/
theorem settleCompletes : Obligations.SettleCompletes := by
  refine ⟨?_, pulse_before_completion, completion_before_pulse⟩
  intro s hhigh n k edges perTick
  rw [exec_settleComplete_running hhigh]
  refine ⟨fun hsettling hnone hn => ?_, fun hsettling hdue hpos hn => ⟨takeTick s, exec_tick_running hhigh, ?_⟩,
    fun hnone hn => ?_, fun hn => ?_, fun hsettled => ?_⟩
  · have hends : settleCanEnd s := ⟨hsettling, Nat.sub_le_iff_le_add'.mpr hn⟩
    rw [takeSettleComplete_ends (by rwa [takeDueTick_of_noTickDue hnone]), takeDueTick_of_noTickDue hnone, finishSettle_eq]
  · have hends : settleCanEnd (takeDueTick s) := by
      rw [takeDueTick_of_due hdue, settleCanEnd_takeTick hdue (.inr hpos)]
      exact ⟨hsettling, Nat.sub_le_iff_le_add'.mpr hn⟩
    have hagain := takeDueTick_takeTick_of_due hdue
    rw [exec_settleComplete_running (by rw [takeTick_rstLow, hhigh]), takeSettleComplete_ends hends,
      takeSettleComplete_ends (by rwa [hagain]), hagain]
  · refine congrArg Host.Outcome.next (takeSettleComplete_stays ?_)
    rw [takeDueTick_of_noTickDue hnone]
    rintro ⟨-, hends⟩
    omega
  · refine congrArg Host.Outcome.next (takeSettleComplete_stays ?_)
    have hlong : ¬n - k ≤ perTick := Nat.not_le.mpr (Nat.lt_sub_iff_add_lt'.mpr hn)
    by_cases hnone : noTickDue s
    · rw [takeDueTick_of_noTickDue hnone]
      rintro ⟨-, hends⟩
      exact hlong (hends.trans (Nat.sub_le _ _))
    · rw [takeDueTick_of_due hnone, settleCanEnd_takeTick hnone (.inr (Nat.zero_lt_of_lt hn))]
      rintro ⟨-, hends⟩
      exact hlong hends
  · refine congrArg Host.Outcome.next (takeSettleComplete_stays ?_)
    by_cases hnone : noTickDue s
    · rw [takeDueTick_of_noTickDue hnone]
      rintro ⟨hsettling, -⟩
      exact absurd (hsettled.symm.trans hsettling) (by decide)
    · rw [takeDueTick_of_due hnone, settleCanEnd_takeTick hnone (.inl hsettled)]
      rintro ⟨hsettling, -⟩
      exact absurd (hsettled.symm.trans hsettling) (by decide)

/-! ### REFERENCE (R108) -/

theorem answerReference_notHolder {r : Reader} {s : State} (h : s.token ≠ some r) (value : Byte) :
    answerReference r value s = refuse .notHolder s := by
  simp [answerReference, holdsToken, h]

theorem referenceOf_badValue {value : Byte} (h : 1 < value.toNat) : referenceOf value = none := by
  have hzero : value ≠ 0 := by bv_omega
  have hone : value ≠ 1 := by bv_omega
  exact (if_neg hzero).trans (if_neg hone)

theorem referenceOf_named {value : Byte} (h : value.toNat ≤ 1) :
    referenceOf value = some (if value = 0 then .internal else .external) := by
  by_cases hzero : value = 0
  · rw [referenceOf, if_pos hzero, if_pos hzero]
  · have hone : value = 1 := by bv_omega
    rw [referenceOf, if_neg hzero, if_neg hzero, if_pos hone]

theorem answerReference_badValue {r : Reader} {s : State} (htoken : s.token = some r) {value : Byte}
    (h : referenceOf value = none) : answerReference r value s = refuse .badValue s := by
  simp [answerReference, holdsToken, htoken, h]

/-- Steps 3 to 5 of R108, for the reference that the byte names. -/
theorem answerReference_named {r : Reader} {s : State} (htoken : s.token = some r) {value : Byte} {x : ReferenceSelection}
    (h : referenceOf value = some x) :
    answerReference r value s =
      if x = s.timebase.selection then perform [] s
      else if x = .external ∧ s.timebase.monitor = .absent then refuse .noReference s
      else perform [] (switchReference x s) := by
  simp [answerReference, holdsToken, htoken, h]

theorem switchReference_of_noTickDue {s : State} (h : noTickDue s) (x : ReferenceSelection) :
    switchReference x s = reevaluateBusy { s with timebase := settleStarted x s.timebase s.settings } := by
  rw [switchReference, takeDueTick_of_noTickDue h]
  rfl

/-- A switch to the other reference, where step 4 of R108 lets it through. -/
theorem answerReference_switches {r : Reader} {s : State} (htoken : s.token = some r) {value : Byte} {x : ReferenceSelection}
    (h : referenceOf value = some x) (hother : s.timebase.selection ≠ x)
    (hallowed : x = .internal ∨ s.timebase.monitor = .present) :
    answerReference r value s = perform [] (switchReference x s) := by
  have hpasses : ¬(x = .external ∧ s.timebase.monitor = .absent) := by
    rintro ⟨hexternal, habsent⟩
    rcases hallowed with hinternal | hpresent
    · exact absurd (hinternal.symm.trans hexternal) (by decide)
    · exact absurd (hpresent.symm.trans habsent) (by decide)
  rw [answerReference_named htoken h, if_neg (Ne.symm hother), if_neg hpasses]

/-- Settles O48: the answers of `answerReference` in the order of R108, the switch after a due tick. -/
theorem referenceSwitches : Obligations.ReferenceSwitches := by
  intro r value s htakes run named
  have hallow (hallowed : value = 0 ∨ s.timebase.monitor = .present) : named = .internal ∨ s.timebase.monitor = .present :=
    hallowed.imp_left fun hzero => if_pos hzero
  have hrun : run = _ := exec_reference htakes value
  rw [hrun]
  refine ⟨fun htoken => ?_, fun htoken hbad => ?_, fun htoken hvalue hsame => ?_, fun htoken hone hinternal habsent => ?_,
    fun htoken hvalue hother hallowed hnone => ?_, fun htoken hvalue hother hallowed hdue => ?_⟩
  · rw [answerReference_notHolder htoken]
    rfl
  · rw [answerReference_badValue htoken (referenceOf_badValue hbad)]
    rfl
  · rw [answerReference_named htoken (referenceOf_named hvalue), if_pos hsame.symm]
    rfl
  · subst hone
    rw [answerReference_named htoken (x := .external) rfl, hinternal, if_neg (by decide), if_pos ⟨rfl, habsent⟩]
    rfl
  · rw [answerReference_switches htoken (referenceOf_named hvalue) hother (hallow hallowed), switchReference_of_noTickDue hnone]
    rfl
  · obtain ⟨hhigh, hphase⟩ := htakes
    have htakes' : takesCommand r (takeTick s) := ⟨by rw [takeTick_rstLow, hhigh], by rw [takeTick_ports, hphase]⟩
    have hswitch : switchReference named (takeTick s) = switchReference named s := by
      rw [switchReference, takeDueTick_takeTick_of_due hdue, switchReference]
    refine ⟨takeTick s, exec_tick_running hhigh, ?_⟩
    rw [exec_reference htakes', answerReference_switches htoken (referenceOf_named hvalue) hother (hallow hallowed),
      answerReference_switches (s := takeTick s) (by rw [takeTick_token, htoken]) (referenceOf_named hvalue)
        (by rwa [takeTick_selection]) (by rw [takeTick_monitor_of_not_noTickDue hdue]; exact hallow hallowed), hswitch]

/-! ### TIME (R113) -/

theorem byteOfBits_low_three (b2 b1 b0 : Bool) :
    byteOfBits false false false false false b2 b1 b0 =
      BitVec.ofNat 8 ((if b0 then 1 else 0) + (if b1 then 2 else 0) + (if b2 then 4 else 0)) := by
  revert b2 b1 b0; decide

theorem timebaseByte_eq (s : State) :
    timebaseByte s = BitVec.ofNat 8 ((if s.timebase.state = .settled then 1 else 0) +
      (if s.timebase.selection = .external then 2 else 0) + (if s.timebase.monitor = .present then 4 else 0)) := by
  simp [timebaseByte, byteOfBits_low_three]

/-- Settles O29: the reply of TIME byte by byte. -/
theorem timeReportsTheCount : Obligations.TimeReportsTheCount := by
  intro r s htakes n flags
  have hexec : exec (.time r) s = .next (command r 0x02 [] 11 (fun t => perform (timeReply t) t) s) := rfl
  rw [hexec, command_answered (keeps_report _) htakes 0x02 [] rfl, replyBytes_perform, timeReply, bigEndian_six, bigEndian_three,
    timebaseByte_eq]
  rfl

end Sys2Proof.Machine
end

section
/-! SUPPORT. EPOCH and the pending epoch reset in the words of the statements (R122, R124), and the SETs that have rows of their own,
each as the accepted SET of its id (R101, R129, R134, R138, R162, R174). -/

namespace Sys2Proof.Machine

/-! ### EPOCH (R124) -/

theorem exec_epoch {r : Reader} {s : State} (htakes : takesCommand r s) :
    exec (.epoch r) s = .next (answered r 0x38 [] (answerEpoch r s).status (replyBytes 0 (answerEpoch r s))
      (answerEpoch r s).after) := by
  have hexec : exec (.epoch r) s = .next (command r 0x38 [] 0 (answerEpoch r) s) := rfl
  rw [hexec, command_answered (keeps_epoch r) htakes 0x38 [] rfl]

theorem answerEpoch_notHolder {r : Reader} {s : State} (h : s.token ≠ some r) : answerEpoch r s = refuse .notHolder s := by
  simp [answerEpoch, holdsToken, h]

theorem answerEpoch_bus {r : Reader} {s : State} (htoken : s.token = some r) (h : s.settings.epochSource = .bus) :
    answerEpoch r s = refuse .badState s := by
  simp [answerEpoch, holdsToken, htoken, h]

theorem answerEpoch_notDrained {r : Reader} {s : State} (htoken : s.token = some r)
    (hsource : s.settings.epochSource = .command) (hlive : s.table ≠ []) : answerEpoch r s = refuse .notDrained s := by
  simp [answerEpoch, holdsToken, htoken, hsource, hlive]

theorem answerEpoch_applies {r : Reader} {s : State} (htoken : s.token = some r)
    (hsource : s.settings.epochSource = .command) (hempty : s.table = []) :
    answerEpoch r s = perform [] (reevaluateBusy (epochApplied s)) := by
  simp [answerEpoch, holdsToken, htoken, hsource, hempty, applyEpochReset_eq]

/-! ### A reset that is pending (R122) -/

/-- In reset and out of it, the event is no event where no reset is pending or the table is not empty (log entry 12). -/
theorem exec_epochReset_stays {s : State} (h : ¬(s.numbering.epochPending = true ∧ s.table = [])) :
    exec .epochReset s = .next s := by
  have hcond : (s.numbering.epochPending && s.table.isEmpty) = false := by
    rwa [← Bool.not_eq_true, Bool.and_eq_true, List.isEmpty_iff]
  show Host.Outcome.next (whileRunning _ s) = _
  simp [whileRunning, hcond]

theorem exec_epochReset_applies {s : State} (hhigh : s.rstLow = false) (hpending : s.numbering.epochPending = true)
    (hempty : s.table = []) : exec .epochReset s = .next (reevaluateBusy (epochApplied s)) := by
  show Host.Outcome.next (whileRunning _ s) = _
  rw [whileRunning_high _ hhigh, hpending, hempty, applyEpochReset_eq]
  rfl

/-- Settles O46: the answers of `answerEpoch` in the order of R124, and the reset applied where it is pending and the table empty. -/
theorem epochResetIsApplied : Obligations.EpochResetIsApplied := by
  refine ⟨fun r s htakes => ?_, fun s => exec_epochReset_applies, fun s => exec_epochReset_stays⟩
  rw [exec_epoch htakes]
  refine ⟨fun h => ?_, fun htoken hbus => ?_, fun htoken hsource hlive => ?_, fun htoken hsource hempty => ?_⟩
  · rw [answerEpoch_notHolder h]
    rfl
  · rw [answerEpoch_bus htoken hbus]
    rfl
  · rw [answerEpoch_notDrained htoken hsource hlive]
    rfl
  · rw [answerEpoch_applies htoken hsource hempty]
    rfl

/-! ### The SETs with rows of their own, as SETs (R162, R174; log entry 3) -/

theorem exec_setBusyHigh (r : Reader) (v : Value16) (s : State) : exec (.setBusyHigh r v) s = exec (.set r 0x04 v) s := rfl

theorem exec_setBusyLow (r : Reader) (v : Value16) (s : State) : exec (.setBusyLow r v) s = exec (.set r 0x05 v) s := rfl

theorem exec_setForceBusy (r : Reader) (v : Value16) (s : State) : exec (.setForceBusy r v) s = exec (.set r 0x07 v) s := rfl

theorem exec_setSettleBusy (r : Reader) (v : Value16) (s : State) : exec (.setSettleBusy r v) s = exec (.set r 0x08 v) s := rfl

theorem exec_setRunNumber (r : Reader) (v : Value16) (s : State) : exec (.setRunNumber r v) s = exec (.set r 0x0B v) s := rfl

theorem exec_setTickPrescale (r : Reader) (v : Value16) (s : State) :
    exec (.setTickPrescale r v) s = exec (.set r 0x0D v) s := rfl

theorem exec_setAttnMask (r q : Reader) (v : Value16) (s : State) :
    exec (.setAttnMask r q v) s = exec (.set r (attnMaskId q) v) s := by
  rw [← settingId_attnMask]
  rfl

theorem settingOfId_attnMaskId (q : Reader) : settingOfId (attnMaskId q) = some (.ofReader q .attnMask) := by
  cases q <;> rfl

/-! ### An accepted SET and what the setting's owner does at once (R101, R129, R134, R138, R174) -/

/-- A SET that passes its three checks (R162, R165). -/
theorem exec_set_accepted {r : Reader} {id : Byte} {v : Value16} {s : State} {x : Setting} (htakes : takesCommand r s)
    (hadmitted : setAdmitted r id s) (hknown : settingOfId id = some x) (haccepts : settingAccepts x v s = true) :
    exec (.set r id v) s =
      .next (answered r 0x32 [id, v.extractLsb' 8 8, v.extractLsb' 0 8] .ok [] (writeSetting x v s)) := by
  rw [exec_set htakes, answerSet_known hadmitted hknown, if_pos haccepts]
  rfl

/-- Every setting but TICK_PRESCALE is stored in the state as it stands. -/
theorem writeSetting_stores {x : Setting} (h : x ≠ .shared .tickPrescale) (v : Value16) (s : State) :
    writeSetting x v s = applySetting x (storeSetting x v s) := by
  simp [writeSetting, h]

/-- A flag setting accepts 0 and 1. -/
theorem settingAccepts_flag {x : SharedSetting} (h : x = .forceBusy ∨ x = .settleBusy) (on : Bool) (s : State) :
    settingAccepts (.shared x) (if on then 1 else 0) s = true := by
  obtain rfl | rfl := h <;> cases on <;> rfl

theorem settingAccepts_tickPrescale {v : Value16} (h : v.toNat ≤ 7) (s : State) :
    settingAccepts (.shared .tickPrescale) v s = true :=
  (settingAccepts_iff _ v s).mpr ⟨Nat.zero_le _, h, rfl⟩

theorem settingAccepts_runNumber (v : Value16) (s : State) : settingAccepts (.shared .runNumber) v s = true :=
  (settingAccepts_iff _ v s).mpr ⟨Nat.zero_le _, Nat.le_of_lt_succ v.isLt, rfl⟩

theorem writeSetting_tickPrescale_of_noTickDue {s : State} (h : noTickDue s) (v : Value16) :
    writeSetting (.shared .tickPrescale) v s = { s with
      settings := { s.settings with tickPrescale := v.toNat }
      timebase := dividerRestarted (2 ^ s.settings.tickPrescale) s.timebase } :=
  writeSetting_eq (fun _ => h) v

/-- The divider restarts as it does after the due tick (log entry 5). -/
theorem writeSetting_tickPrescale_takeTick {s : State} (h : ¬noTickDue s) (v : Value16) :
    writeSetting (.shared .tickPrescale) v (takeTick s) = writeSetting (.shared .tickPrescale) v s := by
  simp only [writeSetting, ↓reduceIte, restartDivider, takeDueTick_takeTick_of_due h]

/-- A port still takes its command after a tick. -/
theorem takesCommand_takeTick {r : Reader} {s : State} (h : takesCommand r s) : takesCommand r (takeTick s) := by
  simpa [takesCommand] using h

/-- Settles O42: each row is the accepted SET of its id (`exec_set_accepted`), and its write is the store with what its owner does. -/
theorem setsThatActAtOnce : Obligations.SetsThatActAtOnce := by
  intro r v s htakes done
  have ⟨hhigh, _⟩ := htakes
  refine ⟨fun htoken => ⟨fun hpos hmax hmarks => ?_, fun hmax hmarks => ?_, fun on hv => ⟨?_, ?_⟩, fun hmax hnone => ?_,
    fun hmax hdue => ⟨takeTick s, exec_tick_running hhigh, ?_⟩, ?_⟩, fun q hadmitted hmax => ?_, fun q u =>
    ⟨exec_setBusyHigh r v u, exec_setBusyLow r v u, exec_setForceBusy r v u, exec_setSettleBusy r v u, exec_setRunNumber r v u,
      exec_setTickPrescale r v u, exec_setAttnMask r q v u⟩⟩
  · have haccepts := (settingAccepts_iff (.shared .busyHigh) v s).mpr ⟨hpos, hmax, decide_eq_true hmarks⟩
    rw [exec_setBusyHigh, exec_set_accepted htakes (.inl htoken) rfl haccepts, writeSetting_stores (by decide)]
    rfl
  · have haccepts := (settingAccepts_iff (.shared .busyLow) v s).mpr ⟨Nat.zero_le _, hmax, decide_eq_true hmarks⟩
    rw [exec_setBusyLow, exec_set_accepted htakes (.inl htoken) rfl haccepts, writeSetting_stores (by decide)]
    rfl
  · subst hv
    rw [exec_setForceBusy, exec_set_accepted htakes (.inl htoken) rfl (settingAccepts_flag (.inl rfl) on s),
      writeSetting_stores (by decide)]
    cases on <;> rfl
  · subst hv
    rw [exec_setSettleBusy, exec_set_accepted htakes (.inl htoken) rfl (settingAccepts_flag (.inr rfl) on s),
      writeSetting_stores (by decide)]
    cases on <;> rfl
  · rw [exec_setTickPrescale, exec_set_accepted htakes (.inl htoken) rfl (settingAccepts_tickPrescale hmax s),
      writeSetting_tickPrescale_of_noTickDue hnone]
  · have htoken' : (takeTick s).token = some r := by rw [takeTick_token, htoken]
    rw [exec_setTickPrescale, exec_setTickPrescale,
      exec_set_accepted htakes (.inl htoken) rfl (settingAccepts_tickPrescale hmax s),
      exec_set_accepted (takesCommand_takeTick htakes) (.inl htoken') rfl (settingAccepts_tickPrescale hmax _),
      writeSetting_tickPrescale_takeTick hdue]
  · rw [exec_setRunNumber, exec_set_accepted htakes (.inl htoken) rfl (settingAccepts_runNumber v s),
      writeSetting_stores (by decide)]
    rfl
  · have haccepts := (settingAccepts_iff (.ofReader q .attnMask) v s).mpr ⟨Nat.zero_le _, hmax, rfl⟩
    rw [exec_setAttnMask, exec_set_accepted htakes (hadmitted.imp_right (congrArg attnMaskId)) (settingOfId_attnMaskId q) haccepts,
      writeSetting_stores (by simp)]
    rfl

end Sys2Proof.Machine
end

section
/-! SUPPORT. The busy unit in the words of the statements (R131, R132, R133, R136, R137): its five sources, what the output does at a
re-evaluation, and the pulse that ends the minimum hold. -/

namespace Sys2Proof.Machine

/-! ### The sources (R131) -/

theorem readersSource_iff (s : State) :
    readersSource s = true ↔ ∃ r, (s.readers.get r).state = .attached ∧ (s.readers.get r).declaredBusy = true := by
  have hall (r : Reader) : r ∈ allReaders := by cases r <;> decide
  simp [readersSource, isAttached, hall]

theorem anySource_iff (s : State) :
    anySource s = true ↔ s.busy.fillActive = true ∨ s.settings.forceBusy = true ∨ s.numbering.epochPending = true ∨
      (s.timebase.state = .settling ∧ s.settings.settleBusy = true) ∨
      ∃ r, (s.readers.get r).state = .attached ∧ (s.readers.get r).declaredBusy = true := by
  simp [anySource_eq, readersSource_iff, forcedSource, epochSourceActive, settlingSource, or_assoc]

/-! ### The output (R136) -/

theorem driveBusy_stays_asserted {s : State} (hsource : anySource s = true) (hout : s.busy.output = true) : driveBusy s = s := by
  simp [driveBusy, hsource, hout]

theorem driveBusy_asserts {s : State} (hsource : anySource s = true) (hout : s.busy.output = false) :
    driveBusy s = s.withBusy { s.busy with output := true, minimumHold := loadMinimumHold s.settings.busyMinimum } := by
  simp [driveBusy, hsource, hout]

theorem driveBusy_deasserts {s : State} (hsource : ¬anySource s = true) (hout : s.busy.output = true)
    (helapsed : s.busy.minimumHold = .elapsed) :
    driveBusy s = s.withBusy { s.busy with output := false, minimumHold := .idle } := by
  simp [driveBusy, hsource, hout, helapsed]

theorem driveBusy_waits {s : State} (hsource : ¬anySource s = true)
    (hhold : ¬(s.busy.output = true ∧ s.busy.minimumHold = .elapsed)) : driveBusy s = s := by
  simp [driveBusy, hsource, hhold]

/-! ### A re-evaluation (R132, R133) -/

/-- FILL has followed the fill and the marks, and the output is still to follow the sources. -/
def fillFollowed (s : State) : State := s.withBusy { s.busy with fillActive := fillHysteresis s }

theorem reevaluateBusy_eq_driveBusy (s : State) : reevaluateBusy s = driveBusy (fillFollowed s) := rfl

/-- Settles O14: the output follows the sources as `driveBusy` does, after FILL. -/
theorem reevaluationDrivesBusy : Obligations.ReevaluationDrivesBusy := by
  intro s fillState readers active
  have hactive : anySource (fillFollowed s) = true ↔ active := anySource_iff (fillFollowed s)
  rw [← hactive, reevaluateBusy_eq_driveBusy]
  exact ⟨driveBusy_stays_asserted, driveBusy_asserts, driveBusy_deasserts, driveBusy_waits⟩

/-! ### The end of the minimum hold (R136, R137) -/

/-- BUSY_TICKS is no source. -/
theorem anySource_countBusyTick (s : State) : anySource (countBusyTick s) = anySource s := by
  rw [countBusyTick_eq]
  rfl

theorem elapseMinimumHold_eq (s : State) :
    elapseMinimumHold s = (countBusyTick s).withBusy
      (if anySource s then { s.busy with minimumHold := .elapsed } else { s.busy with output := false, minimumHold := .idle }) := by
  unfold elapseMinimumHold
  dsimp only
  rw [anySource_countBusyTick, countBusyTick_busy]
  split <;> rfl

theorem takeMinimumHoldExpiry_of_not_due {s : State} (h : s.busy.minimumHold ≠ .pulseDue) : takeMinimumHoldExpiry s = s := if_neg h

/-- Settles O9: the waiting pulse is `elapseMinimumHold`, and with none waiting the command is no event. -/
theorem minimumHoldExpiry : Obligations.MinimumHoldExpiry := by
  refine ⟨fun s hhigh hdue => ?_, fun s hidle => ?_⟩
  · have htakes : takeMinimumHoldExpiry s = elapseMinimumHold s := if_pos hdue
    rw [exec_minimumHoldExpiry_running hhigh, htakes, elapseMinimumHold_eq, countBusyTick_eq]
    rfl
  · show Host.Outcome.next (whileRunning takeMinimumHoldExpiry s) = _
    rw [whileRunning, takeMinimumHoldExpiry_of_not_due hidle, ite_self]

end Sys2Proof.Machine
end

section
/-! SUPPORT. The reply of STATUS byte by byte (R142, R153, R157). -/

namespace Sys2Proof.Machine

theorem byteOfBits_low_seven (b6 b5 b4 b3 b2 b1 b0 : Bool) :
    byteOfBits false b6 b5 b4 b3 b2 b1 b0 =
      BitVec.ofNat 8 ((if b0 then 1 else 0) + (if b1 then 2 else 0) + (if b2 then 4 else 0) + (if b3 then 8 else 0) +
        (if b4 then 16 else 0) + (if b5 then 32 else 0) + (if b6 then 64 else 0)) := by
  revert b6 b5 b4 b3 b2 b1 b0; decide

/-- The bits of R142 as the number they make: the output, the five sources and the caller's own declaration. -/
theorem busyByte_eq (r : Reader) (s : State) :
    busyByte r s = BitVec.ofNat 8 ((if s.busy.output then 1 else 0) + (if s.busy.fillActive then 2 else 0) +
      (if s.settings.forceBusy then 4 else 0) + (if s.numbering.epochPending then 8 else 0) +
      (if s.timebase.state = .settling ∧ s.settings.settleBusy = true then 16 else 0) + (if readersSource s then 32 else 0) +
      (if (s.readers.get r).declaredBusy then 64 else 0)) := by
  simp [busyByte, byteOfBits_low_seven, settlingSource, forcedSource, fillSource, epochSourceActive]

theorem tokenByte_eq (s : State) :
    tokenByte s = BitVec.ofNat 8 (match s.token with
      | none => 0
      | some .a => 1
      | some .b => 2
      | some .c => 3
      | some .d => 4) := by
  unfold tokenByte
  cases s.token with
  | none => rfl
  | some r => cases r <;> rfl

/-- The available records as a list (R15). -/
theorem availableCount_eq (r : Reader) (s : State) :
    availableCount r s = (s.table.filter fun x => x.required.get r && !x.taken.get r && !x.released.get r).length :=
  List.countP_eq_length_filter

/-- Settles O28: the reply of STATUS byte by byte. -/
theorem statusReportsTheHub : Obligations.StatusReportsTheHub := by
  intro r s htakes c available state holder readers busy time hfits
  have hexec : exec (.status r) s = .next (command r 0x01 [] 13 (fun t => perform (statusReply r t) t) s) := rfl
  have hcount : min (availableCount r s) 255 = available := by rw [availableCount_eq, Nat.min_eq_left hfits]
  rw [hexec, command_answered (keeps_report _) htakes 0x01 [] rfl, replyBytes_perform, statusReply, hcount, bigEndian_two,
    bigEndian_three, timebaseByte_eq, busyByte_eq, tokenByte_eq]
  rfl

end Sys2Proof.Machine
end

section
/-! SUPPORT. BUSY after every event (R131, R133, R135): what the busy unit reads, what a re-evaluation needs and leaves, and then event
by event that whatever moves a source is followed by a re-evaluation. -/

namespace Sys2Proof.Machine

/-! ### The minimum-hold timer (R135) -/

/-- IDLE exactly while BUSY is deasserted, and with 1 to 255 while RUNNING. -/
def BusyUnit.HoldLegal (b : BusyUnit) : Prop :=
  (b.minimumHold = .idle ↔ b.output = false) ∧ ∀ v, b.minimumHold = .running v → 1 ≤ v ∧ v ≤ 255

theorem holdLegal_deasserted (fillActive : Bool) : (BusyUnit.mk fillActive false .idle).HoldLegal := ⟨by simp, nofun⟩

theorem holdLegal_elapsed (fillActive : Bool) : (BusyUnit.mk fillActive true .elapsed).HoldLegal := ⟨by simp, nofun⟩

theorem holdLegal_pulseDue (fillActive : Bool) : (BusyUnit.mk fillActive true .pulseDue).HoldLegal := ⟨by simp, nofun⟩

theorem holdLegal_running {v : Nat} (fillActive : Bool) (hrange : 1 ≤ v ∧ v ≤ 255) :
    (BusyUnit.mk fillActive true (.running v)).HoldLegal := by
  simpa [BusyUnit.HoldLegal] using hrange

/-- A minimum hold of 0 has elapsed at once (R136). -/
theorem holdLegal_loadMinimumHold {n : Nat} (fillActive : Bool) (h : n ≤ 255) :
    (BusyUnit.mk fillActive true (loadMinimumHold n)).HoldLegal := by
  unfold loadMinimumHold
  split
  · exact holdLegal_elapsed fillActive
  · exact holdLegal_running fillActive (by omega)

/-- A timer that is not IDLE stands under an asserted BUSY. -/
theorem BusyUnit.HoldLegal.output {b : BusyUnit} (h : b.HoldLegal) (hactive : b.minimumHold ≠ .idle) : b.output = true := by
  obtain ⟨hidle, -⟩ := h
  cases hout : b.output with
  | true => rfl
  | false => exact absurd (hidle.mpr hout) hactive

theorem busyLegal_iff (s : State) :
    busyLegal s ↔ (anySource s = true → s.busy.output = true) ∧ s.busy.HoldLegal ∧
      (s.settings.busyHigh ≤ fill s → s.busy.fillActive = true) ∧ (fill s ≤ s.settings.busyLow → s.busy.fillActive = false) := by
  simp only [busyLegal, BusyUnit.HoldLegal, and_assoc]

/-! ### What the busy unit reads (R131, R133) -/

/-- The busy unit stands, and so do the fill, the settings and every source that it reads. -/
structure SameSources (s t : State) : Prop where
  unit     : t.busy = s.busy
  settings : t.settings = s.settings
  fill     : t.table.length = s.table.length
  pending  : t.numbering.epochPending = s.numbering.epochPending
  timebase : t.timebase.state = s.timebase.state
  state    : ∀ r, (t.readers.get r).state = (s.readers.get r).state
  declared : ∀ r, (t.readers.get r).declaredBusy = (s.readers.get r).declaredBusy

theorem SameSources.refl (s : State) : SameSources s s := ⟨rfl, rfl, rfl, rfl, rfl, fun _ => rfl, fun _ => rfl⟩

theorem SameSources.trans {s t u : State} (h : SameSources s t) (h' : SameSources t u) : SameSources s u :=
  ⟨h'.unit.trans h.unit, h'.settings.trans h.settings, h'.fill.trans h.fill, h'.pending.trans h.pending,
    h'.timebase.trans h.timebase, fun r => (h'.state r).trans (h.state r), fun r => (h'.declared r).trans (h.declared r)⟩

/-- Events in the blocks that the busy unit does not read. -/
theorem sameSources_of_eq {s t : State} (hunit : t.busy = s.busy) (hsettings : t.settings = s.settings)
    (htable : t.table = s.table) (hnumbering : t.numbering = s.numbering) (htimebase : t.timebase = s.timebase)
    (hreaders : t.readers = s.readers) : SameSources s t :=
  ⟨hunit, hsettings, by rw [htable], by rw [hnumbering], by rw [htimebase], fun r => by rw [hreaders], fun r => by rw [hreaders]⟩

theorem sameSources_withTrigger (s : State) (p : TriggerPort) : SameSources s (s.withTrigger p) :=
  sameSources_of_eq rfl rfl rfl rfl rfl rfl

theorem sameSources_withCounters (s : State) (x : Counters) : SameSources s (s.withCounters x) :=
  sameSources_of_eq rfl rfl rfl rfl rfl rfl

theorem sameSources_withToken (s : State) (x : Option Reader) : SameSources s (s.withToken x) :=
  sameSources_of_eq rfl rfl rfl rfl rfl rfl

theorem sameSources_withPorts (s : State) (x : PerReader ReaderPort) : SameSources s (s.withPorts x) :=
  sameSources_of_eq rfl rfl rfl rfl rfl rfl

/-- Records change, and none leaves or joins. -/
theorem sameSources_withTable {s : State} {l : List EventRecord} (h : l.length = s.table.length) : SameSources s (s.withTable l) :=
  ⟨rfl, rfl, h, rfl, rfl, fun _ => rfl, fun _ => rfl⟩

theorem sameSources_withTimebase {s : State} {x : Timebase} (h : x.state = s.timebase.state) :
    SameSources s (s.withTimebase x) := ⟨rfl, rfl, rfl, rfl, h, fun _ => rfl, fun _ => rfl⟩

/-- A context changes, but for its state and its busy declaration. -/
theorem sameSources_modifyReader (s : State) (r : Reader) {f : ReaderContext → ReaderContext}
    (hf : ∀ c, (f c).state = c.state ∧ (f c).declaredBusy = c.declaredBusy) : SameSources s (s.modifyReader r f) := by
  obtain ⟨hstate, hdeclared⟩ := hf (s.readers.get r)
  refine ⟨rfl, rfl, rfl, rfl, rfl, fun q => ?_, fun q => ?_⟩ <;> rw [State.modifyReader_readers, PerReader.get_set] <;> split
  next hq => rw [hstate, hq]
  next => rfl
  next hq => rw [hdeclared, hq]
  next => rfl

theorem sameSources_raise (r : Reader) (c : Cause) (s : State) : SameSources s (raise r c s) :=
  sameSources_modifyReader s r fun _ => ⟨rfl, rfl⟩

theorem SameSources.anySource_iff {s t : State} (h : SameSources s t) : anySource t = true ↔ anySource s = true := by
  simp only [Machine.anySource_iff, h.unit, h.settings, h.pending, h.timebase, h.state, h.declared]

/-! ### Before and after a re-evaluation -/

/-- What a re-evaluation needs: legal settings and a legal minimum hold, whatever the sources have become. -/
structure Drivable (s : State) : Prop where
  settings : s.settings.Legal
  hold     : s.busy.HoldLegal

/-- What a re-evaluation leaves: `busyLegal`, with the legal settings that the next one needs. -/
structure Driven (s : State) : Prop where
  settings : s.settings.Legal
  busy     : busyLegal s

theorem Driven.hold {s : State} (h : Driven s) : s.busy.HoldLegal := by
  obtain ⟨-, hhold, -⟩ := (busyLegal_iff s).mp h.busy
  exact hhold

theorem Driven.drivable {s : State} (h : Driven s) : Drivable s := ⟨h.settings, h.hold⟩

theorem Drivable.of_eq {s t : State} (h : Drivable s) (hunit : t.busy = s.busy) (hsettings : t.settings = s.settings) : Drivable t :=
  ⟨hsettings ▸ h.settings, hunit ▸ h.hold⟩

theorem Driven.of_sameSources {s t : State} (h : Driven s) (hsame : SameSources s t) : Driven t := by
  obtain ⟨hsource, hhold, hhigh, hlow⟩ := (busyLegal_iff s).mp h.busy
  refine ⟨hsame.settings ▸ h.settings, (busyLegal_iff t).mpr ?_⟩
  rw [hsame.anySource_iff, hsame.unit, hsame.settings, fill, hsame.fill]
  exact ⟨hsource, hhold, hhigh, hlow⟩

/-- An asserted BUSY has legal sources, whatever its timer does. -/
theorem Driven.withMinimumHold {s : State} (h : Driven s) {x : MinimumHold} (hout : s.busy.output = true)
    (hx : (BusyUnit.mk s.busy.fillActive true x).HoldLegal) : Driven (s.withBusy { s.busy with minimumHold := x }) := by
  obtain ⟨-, -, hhigh, hlow⟩ := (busyLegal_iff s).mp h.busy
  refine ⟨h.settings, (busyLegal_iff _).mpr ⟨fun _ => hout, ?_, hhigh, hlow⟩⟩
  rw [← hout] at hx
  exact hx

theorem holdLegal_driveBusy {s : State} (h : Drivable s) : (driveBusy s).busy.HoldLegal := by
  obtain ⟨-, -, -, -, -, hminimum, -⟩ := h.settings
  unfold driveBusy
  split
  · split
    · exact h.hold
    · exact holdLegal_loadMinimumHold _ hminimum
  split
  · exact holdLegal_deasserted _
  · exact h.hold

/-- FILL agrees with the marks, for BUSY_LOW is less than BUSY_HIGH (R133, R165). -/
theorem fillHysteresis_agrees {s : State} (h : s.settings.busyLow < s.settings.busyHigh) :
    (s.settings.busyHigh ≤ fill s → fillHysteresis s = true) ∧ (fill s ≤ s.settings.busyLow → fillHysteresis s = false) := by
  refine ⟨fun hhigh => if_pos hhigh, fun hlow => ?_⟩
  have hbelow : ¬s.settings.busyHigh ≤ fill s := by omega
  exact (if_neg hbelow).trans (if_pos hlow)

/-- A re-evaluation brings the busy unit in step with its sources (R131, R132). -/
theorem driven_reevaluateBusy {s : State} (h : Drivable s) : Driven (reevaluateBusy s) := by
  obtain ⟨-, -, -, -, hmarks, -⟩ := h.settings
  have hfollowed : Drivable (fillFollowed s) := ⟨h.settings, h.hold⟩
  refine ⟨by simpa using h.settings, (busyLegal_iff _).mpr ⟨reevaluateBusy_source s, holdLegal_driveBusy hfollowed, ?_⟩⟩
  rw [reevaluateBusy_fillActive, reevaluateBusy_settings, fill, reevaluateBusy_table]
  exact fillHysteresis_agrees hmarks

/-! ### Causes, epoch resets and entry (R12, R121, R122) -/

theorem drivable_applyEpochReset {s : State} (h : Drivable s) : Drivable (applyEpochReset s) := h.of_eq rfl rfl

theorem driven_requestEpochReset {s : State} (h : Driven s) : Driven (requestEpochReset s) := by
  unfold requestEpochReset
  split
  · exact h
  split
  · exact driven_reevaluateBusy (drivable_applyEpochReset h.drivable)
  · exact driven_reevaluateBusy (h.drivable.of_eq rfl rfl)

theorem driven_acceptFrame {s : State} (h : Drivable s) : Driven (acceptFrame s) := by
  rw [acceptFrame_eq]
  exact driven_reevaluateBusy (h.of_eq rfl rfl)

theorem drivable_retryHeldFrame {s : State} (h : Drivable s) : Drivable (retryHeldFrame s) := by
  unfold retryHeldFrame
  split
  · exact (driven_acceptFrame h).drivable
  · exact h

theorem driven_retryHeldFrame {s : State} (h : Driven s) : Driven (retryHeldFrame s) := by
  unfold retryHeldFrame
  split
  · exact driven_acceptFrame h.drivable
  · exact h

/-! ### Retirement and releases (R17, R19, R21, R22) -/

/-- A cascade that retires ends with a re-evaluation, whatever came before it. -/
theorem driven_finishCascade {s : State} (h : Drivable s) : Driven (finishCascade s) := by
  refine driven_reevaluateBusy (drivable_retryHeldFrame ?_)
  split
  · exact drivable_applyEpochReset h
  · exact h

theorem driven_cascade {s : State} (h : Driven s) : Driven (cascade s) := by
  rcases cascade_cases s with ⟨he, -⟩ | ⟨_, rest, -, -, -, he⟩
  · rwa [he]
  · rw [he]
    exact driven_finishCascade (h.drivable.of_eq rfl rfl)

theorem drivable_cascade {s : State} (h : Drivable s) : Drivable (cascade s) := by
  rcases cascade_cases s with ⟨he, -⟩ | ⟨_, rest, -, -, -, he⟩
  · rwa [he]
  · rw [he]
    exact (driven_finishCascade (s := s.withTable rest) (h.of_eq rfl rfl)).drivable

theorem driven_releaseEntry (r : Reader) (id : Identity) {s : State} (h : Driven s) : Driven (releaseEntry r id s) := by
  refine driven_cascade (h.of_sameSources (.trans ?_ (sameSources_modifyReader _ r fun _ => ⟨rfl, rfl⟩)))
  exact sameSources_withTable (modifyFirst_length _ _ _)

/-! ### Outcomes of a frame that does not enter (R83, R88, R91) -/

theorem sameSources_decideFrame (answer : Response) (s : State) : SameSources s (decideFrame answer s) :=
  sameSources_withTrigger s _

theorem sameSources_badFrame (s : State) : SameSources s (badFrame s) :=
  (sameSources_withCounters s _).trans (sameSources_decideFrame _ _)

theorem sameSources_refuseFull (s : State) : SameSources s (refuseFull s) :=
  ((sameSources_withCounters s _).trans (sameSources_withTrigger _ _)).trans (sameSources_decideFrame _ _)

theorem sameSources_refuseEpoch (s : State) : SameSources s (refuseEpoch s) :=
  ((sameSources_withCounters s _).trans (sameSources_withTrigger _ _)).trans (sameSources_decideFrame _ _)

theorem sameSources_holdFrame (s : State) : SameSources s (holdFrame s) :=
  (sameSources_withTrigger s _).trans (sameSources_withCounters _ _)

/-! ### Expiries (R71, R72, R92, R136) -/

theorem driven_expireForce (r : Reader) {s : State} (h : Driven s) : Driven (expireForce r s) := by
  unfold expireForce
  split
  next => exact h.of_sameSources (sameSources_modifyReader s r fun _ => ⟨rfl, rfl⟩)
  next id rest _ =>
    refine Driven.of_sameSources (driven_cascade ?_) (sameSources_modifyReader _ r fun _ => ⟨rfl, rfl⟩)
    refine h.of_sameSources (.trans ?_ (sameSources_raise r .forced _))
    refine .trans ?_ (sameSources_withCounters _ _)
    exact (sameSources_withTable (modifyFirst_length _ _ _)).trans (sameSources_modifyReader _ r fun _ => ⟨rfl, rfl⟩)

/-- A reader that lapses takes its declaration out of the sources, and the expiry ends with a re-evaluation (R72, R131). -/
theorem driven_expireLapse (r : Reader) {s : State} (h : Drivable s) : Driven (expireLapse r s) :=
  driven_reevaluateBusy (drivable_cascade (h.of_eq rfl rfl))

theorem driven_takeHoldExpiry (r : Reader) {s : State} (h : Driven s) : Driven (takeHoldExpiry r s) := by
  unfold takeHoldExpiry
  split
  · split
    · exact driven_expireForce r h
    · exact driven_expireLapse r h.drivable
  · exact h

theorem driven_takeStretchExpiry {s : State} (h : Driven s) : Driven (takeStretchExpiry s) := by
  unfold takeStretchExpiry
  split
  · exact h.of_sameSources (sameSources_refuseFull s)
  · exact h

theorem sameSources_countBusyTick (s : State) : SameSources s (countBusyTick s) := by
  rw [countBusyTick_eq]
  exact sameSources_withCounters s _

/-- The hold ends under an asserted BUSY, or BUSY is deasserted with no source active (R136). -/
theorem driven_elapseMinimumHold {s : State} (h : Driven s) (hout : s.busy.output = true) : Driven (elapseMinimumHold s) := by
  have hcounted : Driven (countBusyTick s) := h.of_sameSources (sameSources_countBusyTick s)
  unfold elapseMinimumHold
  dsimp only
  split
  · exact hcounted.withMinimumHold (by rwa [countBusyTick_busy]) (holdLegal_elapsed _)
  next hnone =>
    obtain ⟨-, -, hhigh, hlow⟩ := (busyLegal_iff _).mp hcounted.busy
    exact ⟨hcounted.settings, (busyLegal_iff _).mpr ⟨fun hsource => absurd hsource hnone, holdLegal_deasserted _, hhigh, hlow⟩⟩

theorem driven_takeMinimumHoldExpiry {s : State} (h : Driven s) : Driven (takeMinimumHoldExpiry s) := by
  unfold takeMinimumHoldExpiry
  split
  next hdue => exact driven_elapseMinimumHold h (h.hold.output (by simp [hdue]))
  next => exact h

/-! ### The timebase -/

theorem driven_takeDueEvents {s : State} (h : Driven s) : Driven (takeDueEvents s) :=
  driven_takeMinimumHoldExpiry <| driven_takeStretchExpiry <| driven_takeHoldExpiry .d <| driven_takeHoldExpiry .c <|
    driven_takeHoldExpiry .b <| driven_takeHoldExpiry .a h

theorem driven_completeSettle {s : State} (h : Drivable s) : Driven (completeSettle s) :=
  driven_reevaluateBusy (h.of_eq rfl rfl)

theorem driven_settleEdges (n : Nat) {s : State} (h : Driven s) : Driven (settleEdges n s) := by
  unfold settleEdges
  split
  · split
    · exact driven_completeSettle h.drivable
    · exact h.of_sameSources (sameSources_withTimebase rfl)
  · exact h

/-- A coarse pulse counts a RUNNING timer down, and leaves the one that would reach 0 waiting for its expiry (R137). -/
theorem driven_busyPulse {s : State} (h : Driven s) : Driven (busyPulse s) := by
  unfold busyPulse
  split
  next v hheld =>
    have hout : s.busy.output = true := h.hold.output (by simp [hheld])
    obtain ⟨-, hcounts⟩ := h.hold
    have hrange := hcounts v hheld
    split
    · exact h.withMinimumHold hout (holdLegal_pulseDue _)
    · exact (h.withMinimumHold hout (holdLegal_running _ (by omega))).of_sameSources (sameSources_countBusyTick _)
  all_goals exact h.of_sameSources (sameSources_countBusyTick s)

theorem driven_coarsePulse {s : State} (h : Driven s) : Driven (coarsePulse s) := by
  unfold coarsePulse
  split
  · exact driven_busyPulse (h.of_sameSources (sameSources_withTrigger s _))
  · exact h

theorem sameSources_holdPulses (s : State) : SameSources s (holdPulses s) := by
  refine ⟨rfl, rfl, rfl, rfl, rfl, fun r => ?_, fun r => ?_⟩ <;> rw [holdPulses_get] <;> split <;> rfl

theorem driven_countTick {s : State} (h : Driven s) : Driven (countTick s) := by
  refine driven_settleEdges _ (.of_sameSources (driven_coarsePulse ?_) (sameSources_holdPulses _))
  refine .of_sameSources (driven_settleEdges _ ?_) (sameSources_withTimebase rfl)
  exact h.of_sameSources (sameSources_withTimebase (monitorEdges_state _ _))

theorem driven_takeTick {s : State} (h : Driven s) : Driven (takeTick s) := driven_countTick (driven_takeDueEvents h)

theorem driven_takeDueTick {s : State} (h : Driven s) : Driven (takeDueTick s) := by
  unfold takeDueTick
  split
  · exact driven_takeTick h
  · exact h

theorem driven_countRefclkEdge {s : State} (h : Driven s) : Driven (countRefclkEdge s) := by
  unfold countRefclkEdge
  split
  · exact driven_settleEdges 1 ((driven_takeDueTick h).of_sameSources (sameSources_withTimebase rfl))
  · exact h.of_sameSources (sameSources_withTimebase rfl)

theorem driven_takeSettleComplete {s : State} (h : Driven s) : Driven (takeSettleComplete s) := by
  unfold takeSettleComplete
  dsimp only
  split
  · exact driven_completeSettle ((driven_takeDueTick h).drivable.of_eq rfl rfl)
  · exact h

/-- A settle that starts makes SETTLING a source, and its event ends with a re-evaluation (R108, R110, R131). -/
theorem driven_fallback {s : State} (h : Drivable s) : Driven (fallback s) := driven_reevaluateBusy (h.of_eq rfl rfl)

theorem driven_loseRefclk {s : State} (h : Driven s) : Driven (loseRefclk s) := by
  unfold loseRefclk
  split
  · exact driven_fallback ((driven_takeDueTick h).drivable.of_eq (monitorExpires_busy _) (monitorExpires_settings _))
  · exact h.of_sameSources (sameSources_withTimebase rfl)

theorem driven_switchReference (x : ReferenceSelection) {s : State} (h : Driven s) : Driven (switchReference x s) :=
  driven_reevaluateBusy ((driven_takeDueTick h).drivable.of_eq rfl rfl)

/-! ### Settings (R134, R138, R165) -/

/-- The settings that the busy unit reads at a re-evaluation alone, or not at all: every one but the marks and the two switches. -/
theorem Driven.withSettings {s : State} (h : Driven s) {x : Settings} (hlegal : x.Legal)
    (hhigh : x.busyHigh = s.settings.busyHigh) (hlow : x.busyLow = s.settings.busyLow)
    (hforce : x.forceBusy = s.settings.forceBusy) (hsettle : x.settleBusy = s.settings.settleBusy) :
    Driven (s.withSettings x) := by
  refine ⟨hlegal, ?_⟩
  have hbusy := h.busy
  simp only [busyLegal, anySource_iff] at hbusy ⊢
  simpa [hhigh, hlow, hforce, hsettle, fill] using hbusy

theorem drivable_storeShared {x : SharedSetting} {v : Value16} {s : State} (haccepts : settingAccepts (.shared x) v s = true)
    (h : Drivable s) : Drivable (storeShared x v s) :=
  ⟨storeShared_legal haccepts h.settings, by simpa using h.hold⟩

/-- A mark or a switch of the busy unit is stored and acted on at once (R134, R138); no other setting is a source. -/
theorem driven_writeShared {x : SharedSetting} {v : Value16} {s : State} (haccepts : settingAccepts (.shared x) v s = true)
    (h : Driven s) : Driven (applySetting (.shared x) (storeShared x v s)) := by
  have hstored := drivable_storeShared haccepts h.drivable
  have hlegal := hstored.settings
  cases x with
  | busyHigh | busyLow | forceBusy | settleBusy => exact driven_reevaluateBusy hstored
  | runNumber => exact h.of_sameSources ⟨rfl, rfl, rfl, rfl, rfl, fun _ => rfl, fun _ => rfl⟩
  | busAddress | broadcast | stretchLimit | busyMinimum | epochSource | runClass | defaultSet | tickPrescale | settleLength
  | countersOpen => exact h.withSettings hlegal rfl rfl rfl rfl

theorem driven_writeOfReader (r : Reader) (x : ReaderSetting) (v : Value16) {s : State} (h : Driven s) :
    Driven (applySetting (.ofReader r x) (storeSetting (.ofReader r x) v s)) := by
  have hstored : Driven (storeSetting (.ofReader r x) v s) :=
    h.of_sameSources (sameSources_modifyReader s r (f := fun c => { c with settings := storeReaderSetting x v c.settings })
      fun _ => ⟨rfl, rfl⟩)
  cases x with
  | holdClock =>
    refine hstored.of_sameSources (sameSources_modifyReader _ r fun c => ?_)
    unfold rejudgePulse
    split <;> exact ⟨rfl, rfl⟩
  | holdLimit | holdPolicy | holdDepth | attnMask => exact hstored

theorem driven_restartDivider {s : State} (h : Driven s) : Driven (restartDivider s) :=
  (driven_takeDueTick h).of_sameSources (sameSources_withTimebase rfl)

theorem driven_writeSetting {x : Setting} {v : Value16} {s : State} (haccepts : settingAccepts x v s = true) (h : Driven s) :
    Driven (writeSetting x v s) := by
  cases x with
  | ofReader r y =>
    rw [writeSetting_stores (by simp)]
    exact driven_writeOfReader r y v h
  | shared y =>
    by_cases hy : y = .tickPrescale
    · subst hy
      have haccepts' : settingAccepts (.shared .tickPrescale) v (restartDivider s) = true := haccepts
      exact driven_writeShared haccepts' (driven_restartDivider h)
    · rw [writeSetting_stores (by simpa using hy)]
      exact driven_writeShared haccepts h

/-! ### The trigger bus -/

theorem sameSources_countTruncation (s : State) : SameSources s (countTruncation s) := by
  unfold countTruncation
  split
  · exact sameSources_withCounters s _
  · exact .refl s

theorem driven_takeStartMark {s : State} (h : Driven s) : Driven (takeStartMark s) := by
  unfold takeStartMark
  split
  · exact h
  · exact h.of_sameSources ((sameSources_countTruncation s).trans (sameSources_withTrigger _ _))

theorem driven_takeStopMark {s : State} (h : Driven s) : Driven (takeStopMark s) := by
  unfold takeStopMark
  split
  · exact h
  · exact h.of_sameSources ((sameSources_countTruncation s).trans (sameSources_withTrigger _ _))

theorem sameSources_judgeAddress (byte : Byte) (s : State) : SameSources s (judgeAddress byte s) := by
  unfold judgeAddress; (repeat' split) <;> exact sameSources_withTrigger s _

theorem sameSources_judgeHeader (byte : Byte) (s : State) : SameSources s (judgeHeader byte s) := by
  unfold judgeHeader
  dsimp only
  split
  · exact sameSources_badFrame s
  · exact sameSources_withTrigger s _
  · exact sameSources_withTrigger s _

theorem sameSources_judgeClass (byte : Byte) (s : State) : SameSources s (judgeClass byte s) := by
  unfold judgeClass
  dsimp only
  split
  · exact sameSources_withTrigger s _
  · exact sameSources_badFrame s

theorem driven_judgeTriggerCheck (byte : Byte) {s : State} (h : Driven s) : Driven (judgeTriggerCheck byte s) := by
  unfold judgeTriggerCheck
  split
  · exact h.of_sameSources (sameSources_badFrame s)
  split
  · exact h.of_sameSources (sameSources_refuseEpoch s)
  split
  · exact driven_acceptFrame h.drivable
  split
  · exact h.of_sameSources (sameSources_refuseFull s)
  · exact h.of_sameSources (sameSources_holdFrame s)

theorem driven_judgeEpochCheck (byte : Byte) {s : State} (h : Driven s) : Driven (judgeEpochCheck byte s) := by
  unfold judgeEpochCheck
  split
  · exact h.of_sameSources (sameSources_badFrame s)
  split
  · exact h.of_sameSources (sameSources_decideFrame _ s)
  · exact (driven_requestEpochReset h).of_sameSources (sameSources_decideFrame _ _)

theorem driven_receiveByte (byte : Byte) {s : State} (h : Driven s) : Driven (receiveByte byte s) := by
  unfold receiveByte
  split
  · exact h.of_sameSources (sameSources_withTrigger s _)
  · exact h.of_sameSources (sameSources_withTrigger s _)
  · exact h.of_sameSources (sameSources_judgeAddress byte s)
  · exact h.of_sameSources (sameSources_judgeHeader byte s)
  · exact h.of_sameSources (sameSources_judgeClass byte s)
  · exact h.of_sameSources (sameSources_withTrigger s _)
  · split
    · exact driven_judgeTriggerCheck byte h
    · exact driven_judgeEpochCheck byte h
  · exact h
  · exact h

theorem sameSources_sendStatusByte (acknowledged : Bool) (s : State) : SameSources s (sendStatusByte acknowledged s) := by
  unfold sendStatusByte
  split
  · split <;> exact sameSources_withTrigger s _
  · exact .refl s

/-- EPOCH_RESET: a pending reset at an empty table (R122). -/
theorem driven_takeEpochReset {s : State} (h : Driven s) :
    Driven (if s.numbering.epochPending && s.table.isEmpty then reevaluateBusy (applyEpochReset s) else s) := by
  split
  · exact driven_reevaluateBusy (drivable_applyEpochReset h.drivable)
  · exact h

/-! ### The readers' commands -/

theorem sameSources_answerCauses (r : Reader) (s : State) : SameSources s (answerCauses r s).after :=
  sameSources_modifyReader s r (f := fun c => { c with causes := 0 }) fun _ => ⟨rfl, rfl⟩

theorem sameSources_answerTake (r : Reader) (s : State) : SameSources s (answerTake r s).after := by
  unfold answerTake
  dsimp only
  split
  · exact .refl s
  split
  · exact .refl s
  split
  · exact .refl s
  · refine .trans ?_ (sameSources_withCounters _ _)
    exact (sameSources_withTable (modifyFirst_length _ _ _)).trans (sameSources_modifyReader _ r fun _ => ⟨rfl, rfl⟩)

theorem driven_answerRelease (r : Reader) (id : Identity) {s : State} (h : Driven s) : Driven (answerRelease r id s).after := by
  unfold answerRelease
  dsimp only
  split
  · exact h
  split
  · exact driven_releaseEntry r id h
  · exact h

theorem driven_answerReleaseOldest (r : Reader) {s : State} (h : Driven s) : Driven (answerReleaseOldest r s).after := by
  unfold answerReleaseOldest
  dsimp only
  split
  · exact h
  split
  · exact h
  · exact driven_releaseEntry r _ h

/-- A reader that attaches, detaches, resumes or declares moves a source, and its command re-evaluates (R53 to R55, R59). -/
theorem driven_answerAttach (r : Reader) {s : State} (h : Driven s) : Driven (answerAttach r s).after := by
  unfold answerAttach
  split
  · exact driven_reevaluateBusy (h.drivable.of_eq rfl rfl)
  · exact h

theorem driven_answerDetach (r : Reader) {s : State} (h : Driven s) : Driven (answerDetach r s).after := by
  unfold answerDetach
  split
  · exact h
  · exact driven_reevaluateBusy (drivable_cascade (h.drivable.of_eq rfl rfl))

theorem driven_answerResume (r : Reader) {s : State} (h : Driven s) : Driven (answerResume r s).after := by
  unfold answerResume
  split
  · exact driven_reevaluateBusy (h.drivable.of_eq rfl rfl)
  · exact h

theorem driven_answerDeclareBusy (r : Reader) (value : Byte) {s : State} (h : Driven s) :
    Driven (answerDeclareBusy r value s).after := by
  unfold answerDeclareBusy
  dsimp only
  split
  · split
    · exact h
    · exact driven_reevaluateBusy (h.drivable.of_eq rfl rfl)
  · exact h

theorem driven_answerReaderReset (r : Reader) {s : State} (h : Driven s) : Driven (answerReaderReset r s).after := by
  have hreleased : Drivable (massRelease r .detached s) := h.drivable.of_eq rfl rfl
  refine driven_reevaluateBusy ?_
  rw [freeTokenOf_eq]
  exact (drivable_cascade hreleased).of_eq rfl rfl

/-! ### The commands that act on the hub -/

theorem sameSources_answerClaim (r : Reader) (s : State) : SameSources s (answerClaim r s).after := by
  unfold answerClaim
  split
  · exact sameSources_withToken s _
  split
  · exact .refl s
  split
  · exact .refl s
  · exact (sameSources_raise _ .tokenLost s).trans (sameSources_withToken _ _)

theorem sameSources_answerYield (r : Reader) (s : State) : SameSources s (answerYield r s).after := by
  unfold answerYield
  split
  · exact sameSources_withToken s _
  · exact .refl s

theorem driven_answerSet (r : Reader) (id : Byte) (v : Value16) {s : State} (h : Driven s) : Driven (answerSet r id v s).after := by
  unfold answerSet
  split
  · exact h
  split
  · exact h
  split
  next haccepts => exact driven_writeSetting haccepts h
  next => exact h

theorem sameSources_answerGet (id : Byte) (s : State) : SameSources s (answerGet id s).after := by
  unfold answerGet; split <;> exact .refl s

theorem sameSources_answerRuleWrite (r : Reader) (index enable pattern mask sets interval : Byte) (s : State) :
    SameSources s (answerRuleWrite r index enable pattern mask sets interval s).after := by
  unfold answerRuleWrite; (repeat' split) <;> exact sameSources_of_eq rfl rfl rfl rfl rfl rfl

theorem sameSources_answerRuleRead (index : Byte) (s : State) : SameSources s (answerRuleRead index s).after := by
  unfold answerRuleRead; split <;> exact .refl s

theorem driven_answerEpoch (r : Reader) {s : State} (h : Driven s) : Driven (answerEpoch r s).after := by
  unfold answerEpoch
  split
  · exact h
  split
  · exact h
  split
  · exact driven_reevaluateBusy (drivable_applyEpochReset h.drivable)
  · exact h

/-- A clear empties the table, re-evaluates, and lets a waiting frame in, which re-evaluates again (R24, R93). -/
theorem driven_hubClear {s : State} (h : Drivable s) : Driven (hubClear s) := by
  have hempty : Drivable (emptyHub s) := h.of_eq rfl rfl
  have hreset : Drivable (if (emptyHub s).numbering.epochPending then applyEpochReset (emptyHub s) else emptyHub s) := by
    split
    · exact drivable_applyEpochReset hempty
    · exact hempty
  exact driven_retryHeldFrame (driven_reevaluateBusy (hreset.of_eq rfl rfl))

theorem driven_answerClear (r : Reader) {s : State} (h : Driven s) : Driven (answerClear r s).after := by
  unfold answerClear
  split
  · exact driven_hubClear h.drivable
  · exact h

theorem driven_answerReference (r : Reader) (value : Byte) {s : State} (h : Driven s) :
    Driven (answerReference r value s).after := by
  unfold answerReference
  split
  · exact h
  split
  · exact h
  split
  · exact h
  split
  · exact h
  · exact driven_switchReference _ h

theorem sameSources_answerCounter (r : Reader) (index form : Byte) (s : State) :
    SameSources s (answerCounter r index form s).after := by
  unfold answerCounter; (repeat' split) <;> exact .refl s

theorem sameSources_answerClearCounters (r : Reader) (s : State) : SameSources s (answerClearCounters r s).after := by
  unfold answerClearCounters
  split
  · exact sameSources_withCounters s _
  · exact .refl s

/-! ### Resets (R141) -/

/-- While RST_N is low BUSY is asserted over an empty table. -/
theorem driven_inReset (pending : List Instr) (csLow : PerReader Bool) : Driven (State.inReset pending csLow) := by
  obtain ⟨hsettings, -⟩ := settingsLegal_inReset pending csLow
  refine ⟨hsettings, (busyLegal_iff _).mpr ⟨fun _ => rfl, holdLegal_elapsed false, fun hfull => ?_, fun _ => rfl⟩⟩
  exact absurd (show 48 ≤ 0 from hfull) (by decide)

/-- At the rise of RST_N the busy unit re-evaluates with a fresh minimum hold. -/
theorem driven_resetRelease {s : State} (h : Driven s) :
    Driven (if s.rstLow then
      reevaluateBusy ((s.withRstLow false).withBusy
        { s.busy with output := true, minimumHold := .running Config.resetMinimumHold })
    else s) := by
  split
  · exact driven_reevaluateBusy ⟨h.settings, holdLegal_running _ (by decide)⟩
  · exact h

/-! ### Every step -/

theorem driven_whileRunning {f : State → State} {s : State} (hf : Driven s → Driven (f s)) (h : Driven s) :
    Driven (whileRunning f s) := by
  unfold whileRunning
  split
  · exact h
  · exact hf h

/-- A reader command does to the busy unit what its answer does. -/
theorem driven_command {act : State → Answer} {s : State} (hact : Driven s → Driven (act s).after) (r : Reader) (code : Byte)
    (args : List Byte) (length : Nat) (h : Driven s) : Driven (command r code args length act s) := by
  unfold command
  split
  · exact (hact h).of_sameSources (sameSources_withPorts _ _)
  · exact h

/-- A reader command whose answer moves no source. -/
theorem driven_report {act : State → Answer} {s : State} (hact : SameSources s (act s).after) (r : Reader) (code : Byte)
    (args : List Byte) (length : Nat) (h : Driven s) : Driven (command r code args length act s) :=
  driven_command (fun h => h.of_sameSources hact) r code args length h

theorem driven_setCommand (r : Reader) (id : Byte) (v : Value16) {s : State} (h : Driven s) : Driven (setCommand r id v s) :=
  driven_command (driven_answerSet r id v) r _ _ _ h

theorem exec_driven (c : Instr) {s : State} (h : Driven s) : ∃ t, exec c s = .next t ∧ Driven t := by
  have byteEvent (byte : Byte) : Driven (whileRunning (receiveByte byte) s) := driven_whileRunning (driven_receiveByte byte) h
  cases c with
  | deviceReset => exact ⟨_, rfl, driven_inReset _ _⟩
  | resetRelease => exact ⟨_, rfl, driven_resetRelease h⟩
  | tick => exact ⟨_, rfl, driven_whileRunning driven_takeTick h⟩
  | holdExpiry r => exact ⟨_, rfl, driven_whileRunning (driven_takeHoldExpiry r) h⟩
  | minimumHoldExpiry => exact ⟨_, rfl, driven_whileRunning driven_takeMinimumHoldExpiry h⟩
  | stretchExpiry => exact ⟨_, rfl, driven_whileRunning driven_takeStretchExpiry h⟩
  | refclkEdge => exact ⟨_, rfl, driven_whileRunning driven_countRefclkEdge h⟩
  | refclkAbsent => exact ⟨_, rfl, driven_whileRunning driven_loseRefclk h⟩
  | settleComplete => exact ⟨_, rfl, driven_whileRunning driven_takeSettleComplete h⟩
  | startMark => exact ⟨_, rfl, driven_whileRunning driven_takeStartMark h⟩
  | stopMark => exact ⟨_, rfl, driven_whileRunning driven_takeStopMark h⟩
  | addressByte byte => exact ⟨_, rfl, byteEvent byte⟩
  | headerByte byte => exact ⟨_, rfl, byteEvent byte⟩
  | classByte byte => exact ⟨_, rfl, byteEvent byte⟩
  | tagByte byte => exact ⟨_, rfl, byteEvent byte⟩
  | triggerCheckByte byte => exact ⟨_, rfl, byteEvent byte⟩
  | holdingEntry => exact ⟨_, rfl, driven_whileRunning driven_retryHeldFrame h⟩
  | epochCheckByte byte => exact ⟨_, rfl, byteEvent byte⟩
  | epochReset => exact ⟨_, rfl, driven_whileRunning driven_takeEpochReset h⟩
  | statusReadByte acknowledged =>
    exact ⟨_, rfl, driven_whileRunning (fun h => h.of_sameSources (sameSources_sendStatusByte acknowledged s)) h⟩
  | transactionOpen r => exact ⟨_, rfl, by split; exacts [h, h.of_sameSources (sameSources_withPorts s _)]⟩
  | transactionEnd r => exact ⟨_, rfl, by split; exacts [h.of_sameSources (sameSources_withPorts s _), h]⟩
  | badCommand r code => exact ⟨_, rfl, by split; exacts [h, driven_report (.refl s) r _ _ _ h]⟩
  | status r => exact ⟨_, rfl, driven_report (.refl s) r _ _ _ h⟩
  | time r => exact ⟨_, rfl, driven_report (.refl s) r _ _ _ h⟩
  | causes r => exact ⟨_, rfl, driven_report (sameSources_answerCauses r s) r _ _ _ h⟩
  | take r => exact ⟨_, rfl, driven_report (sameSources_answerTake r s) r _ _ _ h⟩
  | release r epoch number => exact ⟨_, rfl, driven_command (driven_answerRelease r _) r _ _ _ h⟩
  | releaseOldest r => exact ⟨_, rfl, driven_command (driven_answerReleaseOldest r) r _ _ _ h⟩
  | held r => exact ⟨_, rfl, driven_report (.refl s) r _ _ _ h⟩
  | attach r => exact ⟨_, rfl, driven_command (driven_answerAttach r) r _ _ _ h⟩
  | detach r => exact ⟨_, rfl, driven_command (driven_answerDetach r) r _ _ _ h⟩
  | resume r => exact ⟨_, rfl, driven_command (driven_answerResume r) r _ _ _ h⟩
  | declareBusy r value => exact ⟨_, rfl, driven_command (driven_answerDeclareBusy r value) r _ _ _ h⟩
  | readerReset r => exact ⟨_, rfl, driven_command (driven_answerReaderReset r) r _ _ _ h⟩
  | claim r => exact ⟨_, rfl, driven_report (sameSources_answerClaim r s) r _ _ _ h⟩
  | yield r => exact ⟨_, rfl, driven_report (sameSources_answerYield r s) r _ _ _ h⟩
  | set r id value => exact ⟨_, rfl, driven_setCommand r _ value h⟩
  | setBusyHigh r value => exact ⟨_, rfl, driven_setCommand r _ value h⟩
  | setBusyLow r value => exact ⟨_, rfl, driven_setCommand r _ value h⟩
  | setForceBusy r value => exact ⟨_, rfl, driven_setCommand r _ value h⟩
  | setSettleBusy r value => exact ⟨_, rfl, driven_setCommand r _ value h⟩
  | setTickPrescale r value => exact ⟨_, rfl, driven_setCommand r _ value h⟩
  | setRunNumber r value => exact ⟨_, rfl, driven_setCommand r _ value h⟩
  | setAttnMask r target value => exact ⟨_, rfl, driven_setCommand r _ value h⟩
  | get r id => exact ⟨_, rfl, driven_report (sameSources_answerGet id s) r _ _ _ h⟩
  | ruleWrite r index enable pattern mask sets interval =>
    exact ⟨_, rfl, driven_report (sameSources_answerRuleWrite r index enable pattern mask sets interval s) r _ _ _ h⟩
  | ruleRead r index => exact ⟨_, rfl, driven_report (sameSources_answerRuleRead index s) r _ _ _ h⟩
  | epoch r => exact ⟨_, rfl, driven_command (driven_answerEpoch r) r _ _ _ h⟩
  | clear r => exact ⟨_, rfl, driven_command (driven_answerClear r) r _ _ _ h⟩
  | reference r value => exact ⟨_, rfl, driven_command (driven_answerReference r value) r _ _ _ h⟩
  | counter r index form => exact ⟨_, rfl, driven_report (sameSources_answerCounter r index form s) r _ _ _ h⟩
  | clearCounters r => exact ⟨_, rfl, driven_report (sameSources_answerClearCounters r s) r _ _ _ h⟩

/-- Settles O57: a byte time leaves the busy unit and its sources alone, and every command that moves a source re-evaluates. -/
theorem stepKeepsBusyLegal : Obligations.StepKeepsBusyLegal := by
  intro s t hsettings hbusy hstep
  obtain ⟨hshared, -⟩ := hsettings
  have h : Driven s := ⟨hshared, hbusy⟩
  unfold step at hstep
  split at hstep
  next =>
    obtain rfl : byteTime s = t := by injection hstep
    exact (h.of_sameSources (sameSources_withPorts s _)).busy
  next c rest _ =>
    have hqueue : Driven (s.withPending rest) := h.of_sameSources (sameSources_of_eq rfl rfl rfl rfl rfl rfl)
    obtain ⟨u, hu, hdriven⟩ := exec_driven c hqueue
    obtain rfl : u = t := by rw [hu] at hstep; injection hstep
    exact hdriven.busy

end Sys2Proof.Machine
end

section
/-! SUPPORT. The step, and the reader commands in the words of the statements (R143 to R151): one form for all of them, what they leave
alone, and the command index in both directions. -/

namespace Sys2Proof.Machine

/-! ### A step (log entries 1 and 10) -/

/-- Settles O1, by the two shapes of the queue. -/
theorem stepTakesTheFrontCommand : Obligations.StepTakesTheFrontCommand := by
  refine ⟨fun c rest s hqueue => ?_, fun s hqueue => ?_⟩
  · unfold step
    rw [hqueue]
    rfl
  · unfold step
    rw [hqueue]

/-! ### Replies of no byte (R150, R151, 09 section 9.5) -/

/-- A refusal changes nothing and brings no byte of its own. -/
theorem refuse_emptyReply (c : StatusCode) (s : State) :
    ((refuse c s).status ≠ .ok → (refuse c s).after = s) ∧ ((refuse c s).status = .ok → (refuse c s).reply.length = 0) :=
  ⟨fun _ => rfl, fun _ => rfl⟩

theorem perform_emptyReply (s t : State) :
    ((perform [] t).status ≠ .ok → (perform [] t).after = s) ∧
      ((perform [] t).status = .ok → (perform [] t).reply.length = 0) :=
  ⟨fun hfailed => absurd rfl hfailed, fun _ => rfl⟩

/-- A report is always performed. -/
theorem length_report {length : Nat} (f : State → List Byte) (h : ∀ s, (f s).length = length) :
    AnswersInLength length fun s => perform (f s) s :=
  fun s => ⟨fun _ => rfl, fun _ => h s⟩

theorem length_badCommand : AnswersInLength 0 (refuse .badCommand) := refuse_emptyReply _

theorem length_release (r : Reader) (x : Identity) : AnswersInLength 0 (answerRelease r x) := by
  intro s
  unfold answerRelease
  dsimp only
  (repeat' split)
  exacts [refuse_emptyReply _ s, perform_emptyReply s _, refuse_emptyReply _ s]

theorem length_releaseOldest (r : Reader) : AnswersInLength 0 (answerReleaseOldest r) := by
  intro s
  unfold answerReleaseOldest
  dsimp only
  (repeat' split)
  exacts [refuse_emptyReply _ s, refuse_emptyReply _ s, perform_emptyReply s _]

theorem length_attach (r : Reader) : AnswersInLength 0 (answerAttach r) := by
  intro s
  unfold answerAttach
  split
  exacts [perform_emptyReply s _, refuse_emptyReply _ s]

theorem length_detach (r : Reader) : AnswersInLength 0 (answerDetach r) := by
  intro s
  unfold answerDetach
  split
  exacts [refuse_emptyReply _ s, perform_emptyReply s _]

theorem length_resume (r : Reader) : AnswersInLength 0 (answerResume r) := by
  intro s
  unfold answerResume
  split
  exacts [perform_emptyReply s _, refuse_emptyReply _ s]

theorem length_declareBusy (r : Reader) (value : Byte) : AnswersInLength 0 (answerDeclareBusy r value) := by
  intro s
  unfold answerDeclareBusy
  dsimp only
  (repeat' split)
  exacts [perform_emptyReply s _, perform_emptyReply s _, refuse_emptyReply _ s]

theorem length_readerReset (r : Reader) : AnswersInLength 0 (answerReaderReset r) := fun s => perform_emptyReply s _

theorem length_claim (r : Reader) : AnswersInLength 0 (answerClaim r) := by
  intro s
  unfold answerClaim
  (repeat' split)
  exacts [perform_emptyReply s _, perform_emptyReply s _, refuse_emptyReply _ s, perform_emptyReply s _]

theorem length_yield (r : Reader) : AnswersInLength 0 (answerYield r) := by
  intro s
  unfold answerYield
  split
  exacts [perform_emptyReply s _, refuse_emptyReply _ s]

theorem length_set (r : Reader) (id : Byte) (v : Value16) : AnswersInLength 0 (answerSet r id v) := by
  intro s
  unfold answerSet
  (repeat' split)
  exacts [refuse_emptyReply _ s, refuse_emptyReply _ s, perform_emptyReply s _, refuse_emptyReply _ s]

theorem length_ruleWrite (r : Reader) (index enable pattern mask sets interval : Byte) :
    AnswersInLength 0 (answerRuleWrite r index enable pattern mask sets interval) := by
  intro s
  unfold answerRuleWrite
  (repeat' split)
  exacts [refuse_emptyReply _ s, refuse_emptyReply _ s, perform_emptyReply s _, refuse_emptyReply _ s]

theorem length_epoch (r : Reader) : AnswersInLength 0 (answerEpoch r) := by
  intro s
  unfold answerEpoch
  (repeat' split)
  exacts [refuse_emptyReply _ s, refuse_emptyReply _ s, perform_emptyReply s _, refuse_emptyReply _ s]

theorem length_clear (r : Reader) : AnswersInLength 0 (answerClear r) := by
  intro s
  unfold answerClear
  split
  exacts [perform_emptyReply s _, refuse_emptyReply _ s]

theorem length_reference (r : Reader) (value : Byte) : AnswersInLength 0 (answerReference r value) := by
  intro s
  unfold answerReference
  (repeat' split)
  exacts [refuse_emptyReply _ s, refuse_emptyReply _ s, perform_emptyReply s _, refuse_emptyReply _ s, perform_emptyReply s _]

theorem length_clearCounters (r : Reader) : AnswersInLength 0 (answerClearCounters r) := by
  intro s
  unfold answerClearCounters
  split
  exacts [perform_emptyReply s _, refuse_emptyReply _ s]

/-! ### The bytes of numbers (R162, R179, R180) -/

/-- Two bytes of a value make it up. -/
theorem value16_bytes (v : Value16) : v.extractLsb' 8 8 ++ v.extractLsb' 0 8 = v :=
  (BitVec.extractLsb'_append_extractLsb'_eq_extractLsb' rfl).trans BitVec.extractLsb'_eq_self

/-- Three bytes of an event number make it up. -/
theorem number24_bytes (n : BitVec 24) : n.extractLsb' 16 8 ++ n.extractLsb' 8 8 ++ n.extractLsb' 0 8 = n := by
  have hhigh : n.extractLsb' 16 8 ++ n.extractLsb' 8 8 = n.extractLsb' 8 16 :=
    BitVec.extractLsb'_append_extractLsb'_eq_extractLsb' rfl
  rw [hhigh]
  exact (BitVec.extractLsb'_append_extractLsb'_eq_extractLsb' rfl).trans BitVec.extractLsb'_eq_self

/-- The bytes of a SET whose value arrives as two bytes (R162). -/
theorem setBytes_append (id high low : Byte) : setBytes id (high ++ low) = [0x32, id, high, low] := by
  rw [setBytes, BitVec.extractLsb'_append_eq_left, BitVec.extractLsb'_append_eq_right]

/-- The bytes of a RELEASE whose event number arrives as three bytes (R182). -/
theorem commandBytes_release_append (r : Reader) (e high middle low : Byte) :
    commandBytes (.release r e (high ++ middle ++ low)) = [0x11, e, high, middle, low] := by
  have hhigh : (high ++ middle ++ low).extractLsb' 16 8 = high := by
    rw [BitVec.extractLsb'_append_eq_of_le (by decide)]
    exact BitVec.extractLsb'_append_eq_left
  have hmiddle : (high ++ middle ++ low).extractLsb' 8 8 = middle := by
    rw [BitVec.extractLsb'_append_eq_of_le (by decide)]
    exact BitVec.extractLsb'_append_eq_right
  have hlow : (high ++ middle ++ low).extractLsb' 0 8 = low := BitVec.extractLsb'_append_eq_right
  rw [commandBytes, hhigh, hmiddle, hlow]

/-- A SET is its own row where its setting has none (log entry 3). -/
theorem setCommandOf_of_noOwnRow {id : Byte} (h : settingIdsWithOwnRow.contains id = false) (r : Reader) (v : Value16) :
    setCommandOf r id v = .set r id v := by
  have hrow (x : Byte) (hx : x ∈ settingIdsWithOwnRow) : id ≠ x := by
    rintro rfl
    simp [hx] at h
  simp only [setCommandOf, attnMaskId, hrow 0x04 (by decide), hrow 0x05 (by decide), hrow 0x07 (by decide),
    hrow 0x08 (by decide), hrow 0x0B (by decide), hrow 0x0D (by decide), hrow 0x24 (by decide), hrow 0x2C (by decide),
    hrow 0x34 (by decide), hrow 0x3C (by decide), if_false]

/-- Whatever row a SET has, it is a command of the port it came by. -/
theorem readerOf_setCommandOf (r : Reader) (id : Byte) (v : Value16) : readerOf (setCommandOf r id v) = some r := by
  unfold setCommandOf
  (repeat' split) <;> rfl

/-! ### One form for every reader command (R143 to R151) -/

/-- What a well-formed reader command is at its port: bytes that the command index reads as this command and no other, and an effect that
leaves the ports alone, changes nothing where it is refused and replies in the command's length. -/
structure PortCommand (c : Instr) (r : Reader) (code : Byte) (args : List Byte) (act : State → Answer) : Prop where
  bytes     : commandBytes c = code :: args
  arguments : args.length = argumentCount code
  named     : commandOfBytes r code args = some c
  ports     : KeepsPorts act
  replies   : AnswersInLength (fixedReplyLength c) act
  runs      : ∀ s, exec c s = .next (command r code args (fixedReplyLength c) act s)

/-- Every row of SET is the SET of its id (R162; log entry 3). -/
theorem portCommand_set {c : Instr} {r : Reader} {id : Byte} {v : Value16} (hrow : setCommandOf r id v = c)
    (hreply : fixedReplyLength c = 0) (hruns : ∀ s, exec c s = exec (.set r id v) s) :
    PortCommand c r 0x32 [id, v.extractLsb' 8 8, v.extractLsb' 0 8] (answerSet r id v) where
  bytes := by
    obtain ⟨-, hbytes⟩ := setCommandOf_bytes r id v
    rw [← hrow, hbytes, setBytes]
  arguments := rfl
  named := by
    rw [← hrow, ← congrArg (setCommandOf r id) (value16_bytes v)]
    rfl
  ports := keeps_set r id v
  replies := hreply ▸ length_set r id v
  runs s := by
    have hset : exec (.set r id v) s = .next (command r 0x32 (id :: bigEndian 2 v.toNat) 0 (answerSet r id v) s) := rfl
    rw [hruns, hset, bigEndian_two, hreply]

theorem portCommand_release (r : Reader) (e : BitVec 8) (n : BitVec 24) :
    PortCommand (.release r e n) r 0x11 [e, n.extractLsb' 16 8, n.extractLsb' 8 8, n.extractLsb' 0 8]
      (answerRelease r ⟨e, n⟩) where
  bytes := rfl
  arguments := rfl
  named := congrArg (fun number => some (Instr.release r e number)) (number24_bytes n)
  ports := keeps_release r _
  replies := length_release r _
  runs s := by rw [← bigEndian_three]; rfl

/-- BAD_COMMAND with an unknown code (R146, R151). -/
theorem portCommand_badCommand (r : Reader) {code : Byte} (h : knownCommandCodes.contains code = false) :
    PortCommand (.badCommand r code) r code [] (refuse .badCommand) where
  bytes := rfl
  arguments := (argumentCount_of_unknown h).symm
  named := if_neg (by simpa using h)
  ports := keeps_refuse _
  replies := length_badCommand
  runs _ := congrArg Host.Outcome.next (if_neg (by simpa using h))

theorem portCommand_of_readerOf {c : Instr} {r : Reader} (h : readerOf c = some r) (hc : c.wellFormed = true) :
    ∃ code args act, PortCommand c r code args act := by
  cases c with
  | badCommand q code => cases h; exact ⟨_, _, _, portCommand_badCommand r (by simpa [Instr.wellFormed] using hc)⟩
  | status q => cases h; exact ⟨_, _, _, rfl, rfl, rfl, keeps_report _, length_report _ (statusReply_length r), fun _ => rfl⟩
  | time q => cases h; exact ⟨_, _, _, rfl, rfl, rfl, keeps_report _, length_report _ timeReply_length, fun _ => rfl⟩
  | causes q => cases h; exact ⟨_, _, _, rfl, rfl, rfl, keeps_causes r, length_causes r, fun _ => rfl⟩
  | take q => cases h; exact ⟨_, _, _, rfl, rfl, rfl, keeps_take r, length_take r, fun _ => rfl⟩
  | release q e n => cases h; exact ⟨_, _, _, portCommand_release r e n⟩
  | releaseOldest q => cases h; exact ⟨_, _, _, rfl, rfl, rfl, keeps_releaseOldest r, length_releaseOldest r, fun _ => rfl⟩
  | held q =>
    cases h
    exact ⟨_, _, _, rfl, rfl, rfl, keeps_report _, length_report _ fun s => heldBytes_length (s.readers.get r).holdList, fun _ => rfl⟩
  | attach q => cases h; exact ⟨_, _, _, rfl, rfl, rfl, keeps_attach r, length_attach r, fun _ => rfl⟩
  | detach q => cases h; exact ⟨_, _, _, rfl, rfl, rfl, keeps_detach r, length_detach r, fun _ => rfl⟩
  | resume q => cases h; exact ⟨_, _, _, rfl, rfl, rfl, keeps_resume r, length_resume r, fun _ => rfl⟩
  | declareBusy q v => cases h; exact ⟨_, _, _, rfl, rfl, rfl, keeps_declareBusy r v, length_declareBusy r v, fun _ => rfl⟩
  | readerReset q => cases h; exact ⟨_, _, _, rfl, rfl, rfl, keeps_readerReset r, length_readerReset r, fun _ => rfl⟩
  | claim q => cases h; exact ⟨_, _, _, rfl, rfl, rfl, keeps_claim r, length_claim r, fun _ => rfl⟩
  | yield q => cases h; exact ⟨_, _, _, rfl, rfl, rfl, keeps_yield r, length_yield r, fun _ => rfl⟩
  | set q id v =>
    cases h
    exact ⟨_, _, _, portCommand_set (setCommandOf_of_noOwnRow (by simpa [Instr.wellFormed] using hc) r v) rfl fun _ => rfl⟩
  | setBusyHigh q v => cases h; exact ⟨_, _, _, portCommand_set rfl rfl (exec_setBusyHigh r v)⟩
  | setBusyLow q v => cases h; exact ⟨_, _, _, portCommand_set rfl rfl (exec_setBusyLow r v)⟩
  | setForceBusy q v => cases h; exact ⟨_, _, _, portCommand_set rfl rfl (exec_setForceBusy r v)⟩
  | setSettleBusy q v => cases h; exact ⟨_, _, _, portCommand_set rfl rfl (exec_setSettleBusy r v)⟩
  | setTickPrescale q v => cases h; exact ⟨_, _, _, portCommand_set rfl rfl (exec_setTickPrescale r v)⟩
  | setRunNumber q v => cases h; exact ⟨_, _, _, portCommand_set rfl rfl (exec_setRunNumber r v)⟩
  | setAttnMask q target v =>
    cases h
    exact ⟨_, _, _, portCommand_set (by cases target <;> rfl) rfl (exec_setAttnMask r target v)⟩
  | get q id => cases h; exact ⟨_, _, _, rfl, rfl, rfl, keeps_get id, length_get id, fun _ => rfl⟩
  | ruleWrite q i e p m x n =>
    cases h
    exact ⟨_, _, _, rfl, rfl, rfl, keeps_ruleWrite r i e p m x n, length_ruleWrite r i e p m x n, fun _ => rfl⟩
  | ruleRead q i => cases h; exact ⟨_, _, _, rfl, rfl, rfl, keeps_ruleRead i, length_ruleRead i, fun _ => rfl⟩
  | epoch q => cases h; exact ⟨_, _, _, rfl, rfl, rfl, keeps_epoch r, length_epoch r, fun _ => rfl⟩
  | clear q => cases h; exact ⟨_, _, _, rfl, rfl, rfl, keeps_clear r, length_clear r, fun _ => rfl⟩
  | reference q v => cases h; exact ⟨_, _, _, rfl, rfl, rfl, keeps_reference r v, length_reference r v, fun _ => rfl⟩
  | counter q i form => cases h; exact ⟨_, _, _, rfl, rfl, rfl, keeps_counter r i form, length_counter r i form, fun _ => rfl⟩
  | clearCounters q => cases h; exact ⟨_, _, _, rfl, rfl, rfl, keeps_clearCounters r, length_clearCounters r, fun _ => rfl⟩
  | _ => cases h

/-- A port that takes a command is answered with the command's status and its reply, in the command's length (R147, R150). -/
theorem PortCommand.exec_answered {c : Instr} {r : Reader} {code : Byte} {args : List Byte} {act : State → Answer}
    (h : PortCommand c r code args act) {s : State} (htakes : takesCommand r s) :
    exec c s = .next (answered r code args (act s).status (replyBytes (fixedReplyLength c) (act s)) (act s).after) := by
  rw [h.runs, command_answered h.ports htakes code args h.arguments]

@[simp] theorem answered_port (r : Reader) (code : Byte) (args : List Byte) (status : StatusCode) (reply : List Byte) (u : State) :
    (answered r code args status reply u).ports.get r = { u.ports.get r with
      phase := .turnaround, command := some code, args := args, status := some status, reply := reply, sent := 0 } := by
  simp [answered]

/-! ### What a reader command leaves alone (R143, R144, R151) -/

theorem listening_iff (r : Reader) (s : State) : listening r s = true ↔ takesCommand r s := by
  simp [listening, takesCommand]

/-- Settles O25: a reader command is taken at its port (`exec_of_readerOf`), and a port that does not listen ignores it. -/
theorem onlyTheCallersPortAnswers : Obligations.OnlyTheCallersPortAnswers := by
  intro c r s hreader
  rcases exec_of_readerOf hreader s with hsame | ⟨code, args, length, act, hexec, hform⟩
  · exact ⟨s, hsame, fun _ _ => rfl, rfl, fun _ => rfl⟩
  · refine ⟨_, hexec, fun q hq => command_other_port hform.ports r code args length s hq,
      command_rstLow hform.ports r code args length s, fun hnot => command_not_listening ?_ code args length act⟩
    exact Bool.eq_false_iff.mpr (mt (listening_iff r s).mp hnot)

/-- The reply has the command's length: its own bytes under OK, zeros under every other status (R150). -/
theorem replyBytes_length {length : Nat} {act : State → Answer} (h : AnswersInLength length act) (s : State) :
    (replyBytes length (act s)).length = length := by
  obtain ⟨-, hperformed⟩ := h s
  by_cases hok : (act s).status = .ok
  · rw [replyBytes, if_pos hok, hperformed hok]
  · rw [replyBytes, if_neg hok, List.length_replicate]

/-- Settles O26: the answer of a command (`PortCommand.exec_answered`), whose effect changes nothing where it is refused. -/
theorem refusedCommandChangesNothing : Obligations.RefusedCommandChangesNothing := by
  intro c r s hreader hwell htakes
  obtain ⟨code, args, act, hform⟩ := portCommand_of_readerOf hreader hwell
  obtain ⟨hrefused, -⟩ := hform.replies s
  refine ⟨_, (act s).status, hform.exec_answered htakes, ?_⟩
  rw [answered_port]
  refine ⟨rfl, rfl, replyBytes_length hform.replies s, fun hstatus => ⟨?_, if_neg hstatus⟩⟩
  rw [hrefused hstatus]
  rfl

/-! ### The command index (R144, R146, R180) -/

/-- The codes by their number of argument bytes (09 section 9.5). -/
theorem code_of_argumentCount (code : Byte) :
    argumentCount code = 0 ∨ (argumentCount code = 1 ∧ (code = 0x23 ∨ code = 0x33 ∨ code = 0x35 ∨ code = 0x3A)) ∨
      (argumentCount code = 2 ∧ code = 0x40) ∨ (argumentCount code = 3 ∧ code = 0x32) ∨
      (argumentCount code = 4 ∧ code = 0x11) ∨ (argumentCount code = 6 ∧ code = 0x34) := by
  revert code; decide

/-- The code and its arguments name a well-formed command of the reader, whose bytes they are. -/
def NamesCommand (r : Reader) (code : Byte) (args : List Byte) : Prop :=
  ∃ c, commandOfBytes r code args = some c ∧ c.wellFormed = true ∧ readerOf c = some r ∧ commandBytes c = code :: args

theorem namesCommand_argumentless (r : Reader) {code : Byte} (h : argumentCount code = 0) : NamesCommand r code [] := by
  cases hknown : knownCommandCodes.contains code with
  | false => exact ⟨.badCommand r code, if_neg (by simpa using hknown), by simpa [Instr.wellFormed] using hknown, rfl, rfl⟩
  | true =>
    have hcode : code ∈ [(0x01 : Byte), 0x02, 0x03, 0x10, 0x12, 0x13, 0x20, 0x21, 0x22, 0x24, 0x30, 0x31, 0x38, 0x39, 0x41] := by
      revert code; decide
    fin_cases hcode <;> exact ⟨_, rfl, rfl, rfl, rfl⟩

theorem namesCommand_set (r : Reader) (id high low : Byte) : NamesCommand r 0x32 [id, high, low] := by
  obtain ⟨hwell, hbytes⟩ := setCommandOf_bytes r id (high ++ low)
  exact ⟨setCommandOf r id (high ++ low), rfl, hwell, readerOf_setCommandOf r id _, hbytes.trans (setBytes_append id high low)⟩

/-- As many argument bytes as the code has name a command, by the shapes of the index. -/
theorem namesCommand_of_arguments (r : Reader) {code : Byte} {args : List Byte} (h : args.length = argumentCount code) :
    NamesCommand r code args := by
  rcases code_of_argumentCount code with hn | ⟨hn, hcode⟩ | ⟨hn, rfl⟩ | ⟨hn, rfl⟩ | ⟨hn, rfl⟩ | ⟨hn, rfl⟩ <;>
    rw [hn] at h
  · obtain rfl := List.length_eq_zero_iff.mp h
    exact namesCommand_argumentless r hn
  · obtain ⟨a, rfl⟩ := List.length_eq_one_iff.mp h
    rcases hcode with rfl | rfl | rfl | rfl <;> exact ⟨_, rfl, rfl, rfl, rfl⟩
  · obtain ⟨a, b, rfl⟩ := List.length_eq_two.mp h
    exact ⟨.counter r a b, rfl, rfl, rfl, rfl⟩
  · obtain ⟨id, high, low, rfl⟩ := List.length_eq_three.mp h
    exact namesCommand_set r id high low
  · match args, h with
    | [e, high, middle, low], _ =>
      exact ⟨.release r e (high ++ middle ++ low), rfl, rfl, rfl, commandBytes_release_append r e high middle low⟩
  · match args, h with
    | [index, enable, pattern, mask, sets, interval], _ =>
      exact ⟨.ruleWrite r index enable pattern mask sets interval, rfl, rfl, rfl, rfl⟩

/-- The known codes as the numbers of 09 section 9.5. -/
theorem known_toNat {code : Byte} (h : code ∈ knownCommandCodes) :
    code.toNat ∈ [0x01, 0x02, 0x03, 0x10, 0x11, 0x12, 0x13, 0x20, 0x21, 0x22, 0x23, 0x24, 0x30, 0x31, 0x32, 0x33, 0x34,
      0x35, 0x38, 0x39, 0x3A, 0x40, 0x41] :=
  List.mem_map_of_mem (f := BitVec.toNat) h

/-- Settles O24: bytes name a command (`namesCommand_of_arguments`), a command has bytes that name it (`portCommand_of_readerOf`), and an
unknown code is BAD_COMMAND's. -/
theorem commandBytesNameTheCommand : Obligations.CommandBytesNameTheCommand := by
  refine ⟨by decide, fun r code args => namesCommand_of_arguments r, fun c r hreader hwell => ?_,
    fun r code s htakes hcode => ?_⟩
  · obtain ⟨code, args, act, hform⟩ := portCommand_of_readerOf hreader hwell
    refine ⟨code, args, hform.bytes, hform.arguments, hform.named, fun s htakes => ⟨_, hform.exec_answered htakes, ?_⟩⟩
    rw [answered_port]
    exact ⟨rfl, rfl⟩
  · have hunknown : knownCommandCodes.contains code = false :=
      Bool.eq_false_iff.mpr fun hknown => hcode (known_toNat (List.contains_iff_mem.mp hknown))
    exact ⟨argumentCount_of_unknown hunknown, (portCommand_badCommand r hunknown).exec_answered htakes⟩

end Sys2Proof.Machine
end

section
/-! SUPPORT. One reader port in the words of the statements (R144, R145, R148, R150, R152, R156, R169): the bytes it sends and its phases,
its header, and the two edges of CS_N. -/

namespace Sys2Proof.Machine

/-! ### The bytes of a transaction (R144, R150, R152) -/

/-- Past the effect point: the header, a zero for each argument byte and for the turnaround, the status, the reply. -/
theorem sentBytes_eq {p : ReaderPort} {c : StatusCode} (h : p.status = some c) :
    sentBytes p = p.header :: (List.replicate (p.args.length + 1) 0 ++ statusByte c :: p.reply) := by
  simp [sentBytes, h, List.replicate_succ']

theorem sentByte_argument {p : ReaderPort} {c : StatusCode} (h : p.status = some c) {k : Nat} (hk : k ≤ p.args.length) :
    sentByte p (1 + k) = 0 := by
  rw [sentByte, sentBytes_eq h, Nat.add_comm 1 k, List.getD_cons_succ,
    List.getD_append _ _ _ _ (by rw [List.length_replicate]; omega), List.getD_replicate _ (by omega)]

theorem sentByte_answer {p : ReaderPort} {c : StatusCode} (h : p.status = some c) (k : Nat) :
    sentByte p (2 + p.args.length + k) = (statusByte c :: p.reply).getD k 0 := by
  have hplace : 2 + p.args.length + k = p.args.length + 1 + k + 1 := by omega
  rw [sentByte, sentBytes_eq h, hplace, List.getD_cons_succ,
    List.getD_append_right _ _ _ _ (by rw [List.length_replicate]; omega), List.length_replicate, Nat.add_sub_cancel_left]

/-! ### The phases byte by byte (R144, R150; log entry 10) -/

/-- Outside COMMAND and ARGUMENTS a byte from the reader is ignored. -/
theorem arrive_ignored {p : ReaderPort} {byte : Byte} (h : p.phase ∉ [Phase.command, .arguments]) : arrive p byte = p := by
  simp only [List.mem_cons, List.not_mem_nil, or_false, not_or] at h
  obtain ⟨hcommand, harguments⟩ := h
  unfold arrive
  split
  next hphase => exact absurd hphase hcommand
  next hphase => exact absurd hphase harguments
  all_goals rfl

theorem sendByte_turnaround {p : ReaderPort} (h : p.phase = .turnaround) : sendByte p = { p with phase := .status } := by
  simp [sendByte, h]

theorem sendByte_status {p : ReaderPort} (h : p.phase = .status) :
    sendByte p = { p with phase := if p.reply = [] then .trailing else .reply, sent := 0 } := by
  simp [sendByte, h]

theorem sendByte_reply {p : ReaderPort} (h : p.phase = .reply) :
    sendByte p = { p with phase := if p.sent + 1 < p.reply.length then .reply else .trailing, sent := p.sent + 1 } := by
  simp [sendByte, h]

theorem sendByte_waits {p : ReaderPort} (h : p.phase ∈ [Phase.idle, .command, .arguments, .trailing]) : sendByte p = p := by
  simp only [List.mem_cons, List.not_mem_nil, or_false] at h
  rcases h with h | h | h | h <;> simp [sendByte, h]

/-- The status byte and `k` bytes of the reply after TURNAROUND: the next reply byte is due, or the port trails (R144, R150). -/
theorem sendByte_iterate {p : ReaderPort} (h : p.phase = .turnaround) (k : Nat) :
    sendByte^[k + 2] p =
      { p with phase := if k < p.reply.length then .reply else .trailing, sent := min k p.reply.length } := by
  induction k with
  | zero =>
    have hstart : sendByte^[0 + 2] p = sendByte { p with phase := .status } := by
      rw [← sendByte_turnaround h]
      rfl
    rw [hstart, sendByte_status rfl]
    by_cases hempty : p.reply = []
    · simp [hempty]
    · simp [hempty, List.length_pos_iff.mpr hempty]
  | succ k ih =>
    rw [Function.iterate_succ_apply', ih]
    by_cases hleft : k < p.reply.length
    · refine (sendByte_reply (by simp [hleft])).trans ?_
      simp [hleft.le, Nat.succ_le_of_lt hleft]
    · refine (sendByte_waits (by simp [hleft])).trans ?_
      simp [hleft, Nat.le_of_not_lt hleft, Nat.le_succ_of_le (Nat.le_of_not_lt hleft),
        Nat.not_lt.mpr (Nat.le_succ_of_le (Nat.le_of_not_lt hleft))]

/-- What the port sends `k` bytes after the last argument byte is the byte of its transaction at that place. -/
theorem sendingByte_iterate {p : ReaderPort} {c : StatusCode} (h : p.phase = .turnaround) (hc : p.status = some c) (k : Nat) :
    sendingByte (sendByte^[k] p) = sentByte p (1 + p.args.length + k) := by
  match k with
  | 0 =>
    rw [Nat.add_zero, sentByte_argument hc le_rfl]
    simp [sendingByte, h]
  | 1 =>
    have hplace : 1 + p.args.length + 1 = 2 + p.args.length + 0 := by omega
    rw [hplace, sentByte_answer hc, Function.iterate_one, sendByte_turnaround h]
    simp [sendingByte, hc]
  | k + 2 =>
    have hplace : 1 + p.args.length + (k + 2) = 2 + p.args.length + (k + 1) := by omega
    rw [hplace, sentByte_answer hc, List.getD_cons_succ, sendByte_iterate h]
    by_cases hleft : k < p.reply.length
    · simp [sendingByte, hleft, hleft.le]
    · simp [sendingByte, hleft]

theorem byteTime_eq (s : State) : byteTime s = { s with ports := (byteTime s).ports } := rfl

/-- Settles O27: the bytes of an answered port (`sentBytes_eq`), the moves of `arrive` and `sendByte` phase by phase, and their agreement
with those bytes (`sendingByte_iterate`). -/
theorem portSendsStatusAndReply : Obligations.PortSendsStatusAndReply := by
  refine ⟨fun c r s hreader hwell htakes => ?_, rfl, fun p byte => ⟨?_, ?_, ?_, ?_⟩, fun s r => ⟨byteTime_eq s, ?_⟩,
    fun p hphase hstatus => ?_⟩
  · obtain ⟨code, args, act, hform⟩ := portCommand_of_readerOf hreader hwell
    obtain ⟨hports, -, -⟩ := hform.ports s
    refine ⟨_, (act s).status, hform.exec_answered htakes, ?_⟩
    rw [answered_port]
    refine ⟨rfl, congrArg (fun ports => (PerReader.get ports r).header) hports, fun k => sentByte_argument rfl,
      sentByte_answer rfl 0, fun k => ?_⟩
    have hplace : 3 + args.length + k = 2 + args.length + (k + 1) := by omega
    exact (congrArg (sentByte _) hplace).trans (sentByte_answer rfl (k + 1))
  · intro hphase hnone
    simp [arrive, hphase, hnone]
  · intro hphase hsome
    simp [arrive, hphase, hsome.ne']
  · intro code hphase hcode
    simp [arrive, hphase, hcode]
  · exact arrive_ignored
  · intro p q
    have hq : q = sendByte p := byteTime_ports_get s r
    rw [hq]
    exact ⟨sendByte_turnaround, sendByte_status, sendByte_reply, sendByte_waits⟩
  · obtain ⟨c, hc⟩ := Option.isSome_iff_exists.mp hstatus
    exact sendingByte_iterate hphase hc

/-! ### The port header (R145, R169) -/

theorem and_ne_zero_iff {w : Nat} (x y : BitVec w) :
    x &&& y ≠ 0 ↔ ∃ i, i < w ∧ x.getLsbD i = true ∧ y.getLsbD i = true := by
  constructor
  · intro hne
    by_contra hnone
    refine hne (BitVec.eq_of_getLsbD_eq fun i hi => ?_)
    have hbit : ¬(x.getLsbD i = true ∧ y.getLsbD i = true) := fun h => hnone ⟨i, hi, h⟩
    simpa using hbit
  · rintro ⟨i, -, hx, hy⟩ hzero
    have hbit := congrArg (BitVec.getLsbD · i) hzero
    simp [hx, hy] at hbit

theorem attnAsserted_iff (r : Reader) (s : State) :
    attnAsserted r s = true ↔ (s.readers.get r).causes &&& (s.readers.get r).settings.attnMask ≠ 0 := by
  simp [attnAsserted]

/-- The header's four fields as the number they make. -/
theorem headerBits_eq (attention busy : Bool) (state : Fin 4) (available : Fin 16) :
    BitVec.ofBool attention ++ BitVec.ofBool busy ++ BitVec.ofNat 2 state ++ BitVec.ofNat 4 available =
      BitVec.ofNat 8 ((if attention then 128 else 0) + (if busy then 64 else 0) + 16 * state.val + available.val) := by
  revert attention busy state available; decide

theorem readerStateNumber_le (x : ReaderState) : readerStateNumber x ≤ 2 := by
  cases x <;> decide

theorem portHeader_eq (r : Reader) (s : State) :
    portHeader r s = BitVec.ofNat 8 ((if attnAsserted r s then 128 else 0) + (if s.busy.output then 64 else 0) +
      16 * readerStateNumber (s.readers.get r).state + min (availableCount r s) 15) :=
  have hstate := readerStateNumber_le (s.readers.get r).state
  headerBits_eq _ _ ⟨readerStateNumber (s.readers.get r).state, by omega⟩ ⟨min (availableCount r s) 15, by omega⟩

/-- The other fields of the header stay below its attention bit. -/
theorem attention_le_header (clear : Prop) [Decidable clear] (busy : Bool) (x : ReaderState) (available : Nat) :
    128 ≤ (if clear then 0 else 128) + (if busy then 64 else 0) + 16 * readerStateNumber x + min available 15 ↔ ¬clear := by
  have hstate := readerStateNumber_le x
  have hbusy : (if busy then 64 else 0) ≤ 64 := by split <;> omega
  by_cases hclear : clear
  · rw [if_pos hclear]
    exact iff_of_false (by omega) (not_not_intro hclear)
  · rw [if_neg hclear]
    exact iff_of_true (by omega) hclear

/-! ### The edges of CS_N (R144, R145, R148, R156) -/

theorem exec_transactionOpen_high {r : Reader} {s : State} (h : (s.ports.get r).csLow = false) :
    exec (.transactionOpen r) s = .next (s.withPorts (s.ports.set r (openPort r s))) :=
  congrArg Host.Outcome.next (if_neg (by simp [h]))

theorem exec_transactionOpen_low {r : Reader} {s : State} (h : (s.ports.get r).csLow = true) :
    exec (.transactionOpen r) s = .next s :=
  congrArg Host.Outcome.next (if_pos h)

theorem exec_transactionEnd_low {r : Reader} {s : State} (h : (s.ports.get r).csLow = true) :
    exec (.transactionEnd r) s = .next (s.withPorts (s.ports.set r (.idleAt false))) :=
  congrArg Host.Outcome.next (if_pos h)

theorem exec_transactionEnd_high {r : Reader} {s : State} (h : (s.ports.get r).csLow = false) :
    exec (.transactionEnd r) s = .next s :=
  congrArg Host.Outcome.next (if_neg (by simp [h]))

theorem openPort_running (r : Reader) {s : State} (h : s.rstLow = false) :
    openPort r s = { csLow := true, phase := .command, header := portHeader r s, command := none, args := [], status := none,
                     reply := [], sent := 0 } :=
  if_neg (by simp [h])

theorem openPort_held (r : Reader) {s : State} (h : s.rstLow = true) :
    openPort r s = { s.ports.get r with csLow := true } :=
  if_pos h

theorem openPort_csLow (r : Reader) (s : State) : (openPort r s).csLow = true := by
  unfold openPort; split <;> rfl

/-- A transaction that ends with no command taken leaves no trace at a port that was idle (R148). -/
theorem exec_transactionEnd_open {r : Reader} {s : State} (h : s.ports.get r = .idleAt false) :
    exec (.transactionEnd r) (s.withPorts (s.ports.set r (openPort r s))) = .next s := by
  rw [exec_transactionEnd_low (by simp [openPort_csLow]), State.withPorts_ports, PerReader.set_set, ← h, PerReader.set_get]
  rfl

/-- Settles O23: the two edges of CS_N by the level before them, and the header's fields (`portHeader_eq`). -/
theorem transactionsOpenAndEnd : Obligations.TransactionsOpenAndEnd := by
  intro r s available state header
  have hattention : attnAsserted r s = true ↔ (s.readers.get r).causes &&& (s.readers.get r).settings.attnMask ≠ 0 :=
    attnAsserted_iff r s
  have hheader : portHeader r s = BitVec.ofNat 8 header := by
    rw [portHeader_eq, availableCount_eq]
    simp only [hattention, ne_eq, ite_not]
    rfl
  have hbit : 128 ≤ header ↔ attnAsserted r s = true := by
    rw [hattention]
    exact attention_le_header _ s.busy.output (s.readers.get r).state available
  refine ⟨fun hrst hcs => ?_, fun hrst hcs => ?_, exec_transactionEnd_low, fun hidle => ?_, exec_transactionOpen_low,
    exec_transactionEnd_high, hattention.trans (and_ne_zero_iff _ _), hheader, hbit⟩
  · rw [exec_transactionOpen_high hcs, openPort_running r hrst, hheader]
    rfl
  · rw [exec_transactionOpen_high hcs, openPort_held r hrst]
    rfl
  · exact ⟨_, exec_transactionOpen_high (by rw [hidle]; rfl), exec_transactionEnd_open hidle⟩

end Sys2Proof.Machine
end

section
/-! SUPPORT. The control token and the settings in the words of the statements (R158, R159, R163, R164, R167): what CLAIM and YIELD
answer, which ids name a setting, and the field behind each value that GET returns. -/

namespace Sys2Proof.Machine

/-! ### CLAIM (R158) -/

theorem exec_claim {r : Reader} {s : State} (htakes : takesCommand r s) :
    exec (.claim r) s = .next (answered r 0x30 [] (answerClaim r s).status (replyBytes 0 (answerClaim r s))
      (answerClaim r s).after) := by
  have hexec : exec (.claim r) s = .next (command r 0x30 [] 0 (answerClaim r) s) := rfl
  rw [hexec, command_answered (keeps_claim r) htakes 0x30 [] rfl]

theorem answerClaim_free {s : State} (h : s.token = none) (r : Reader) :
    answerClaim r s = perform [] (s.withToken (some r)) := by
  simp [answerClaim, h]

theorem answerClaim_own {r : Reader} {s : State} (h : s.token = some r) : answerClaim r s = perform [] s := by
  simp [answerClaim, h]

theorem answerClaim_taken {r h : Reader} {s : State} (htoken : s.token = some h) (hother : h ≠ r)
    (hstate : (s.readers.get h).state = .attached) : answerClaim r s = refuse .tokenTaken s := by
  simp [answerClaim, htoken, hother, isAttached, hstate]

theorem answerClaim_lost {r h : Reader} {s : State} (htoken : s.token = some h) (hother : h ≠ r)
    (hstate : (s.readers.get h).state ≠ .attached) :
    answerClaim r s = perform [] ((raise h .tokenLost s).withToken (some r)) := by
  simp [answerClaim, htoken, hother, isAttached, hstate]

/-- A cause that is set and that the mask admits asserts the reader's line (R169). -/
theorem attnAsserted_of_bit {r : Reader} {s : State} {i : Nat} (hi : i < 9) (hcause : (s.readers.get r).causes.getLsbD i = true)
    (hmask : (s.readers.get r).settings.attnMask.getLsbD i = true) : attnAsserted r s = true :=
  (attnAsserted_iff r s).mpr ((and_ne_zero_iff _ _).mpr ⟨i, hi, hcause, hmask⟩)

/-- Settles O38: the rows of R158 one by one, and the TOKEN_LOST of the last is bit 8 of the former holder's causes. -/
theorem claimIsDecidedByTheHolder : Obligations.ClaimIsDecidedByTheHolder := by
  intro r s htakes
  rw [exec_claim htakes]
  refine ⟨fun hfree => ?_, fun hown => ?_, fun h htoken hother hstate => ?_, fun h htoken hother hstate =>
    ⟨_, rfl, ?_, fun hmask => ?_⟩⟩
  · rw [answerClaim_free hfree]
    rfl
  · rw [answerClaim_own hown]
    rfl
  · rw [answerClaim_taken htoken hother hstate]
    rfl
  · rw [answerClaim_lost htoken hother hstate]
    rfl
  · rw [answerClaim_lost htoken hother hstate]
    refine attnAsserted_of_bit (i := 8) (by decide) ?_ ?_
    · simp [answered, perform, raise, causeBit, causeNumber]
    · simpa [answered, perform, raise] using hmask

/-! ### YIELD (R159) -/

theorem exec_yield {r : Reader} {s : State} (htakes : takesCommand r s) :
    exec (.yield r) s = .next (answered r 0x31 [] (answerYield r s).status (replyBytes 0 (answerYield r s))
      (answerYield r s).after) := by
  have hexec : exec (.yield r) s = .next (command r 0x31 [] 0 (answerYield r) s) := rfl
  rw [hexec, command_answered (keeps_yield r) htakes 0x31 [] rfl]

theorem answerYield_holder {r : Reader} {s : State} (h : s.token = some r) :
    answerYield r s = perform [] (s.withToken none) := by
  simp [answerYield, holdsToken, h]

theorem answerYield_notHolder {r : Reader} {s : State} (h : s.token ≠ some r) : answerYield r s = refuse .notHolder s := by
  simp [answerYield, holdsToken, h]

/-- Byte 5 of STATUS is the token's (R153, R157). -/
theorem statusReply_token (r : Reader) (s : State) : (statusReply r s)[5]? = some (tokenByte s) := rfl

theorem tokenByte_free {s : State} (h : s.token = none) : tokenByte s = 0 := by
  simp [tokenByte, h]

/-- Settles O39: the two answers of `answerYield`, and what `tokenByte` shows of a free token. -/
theorem yieldFreesTheToken : Obligations.YieldFreesTheToken := by
  intro r s htakes
  rw [exec_yield htakes]
  refine ⟨fun hholder => ⟨_, rfl, ?_, fun q => ?_⟩, fun hother => ?_⟩
  · rw [answerYield_holder hholder]
    rfl
  · rw [statusReply_token, answerYield_holder hholder, tokenByte_free rfl]
  · rw [answerYield_notHolder hother]
    rfl

/-! ### The ids of the settings (R163, R164) -/

theorem settingOfId_settingId (x : Setting) : settingOfId (settingId x) = some x := by
  cases x with
  | shared y => cases y <;> rfl
  | ofReader r y => cases r <;> cases y <;> rfl

/-- An id names a setting exactly when it is the id of one. -/
theorem settingOfId_isSome_iff (id : Byte) : (settingOfId id).isSome = true ↔ id ∈ allSettings.map settingId := by
  simp [settingOfId, List.find?_isSome]

/-- The table lists the settings in the order of their ids. -/
theorem settingTable_ids : settingTable.map (·.1) = allSettings.map settingId := rfl

/-- Each row of the table has its setting's id, range and reset value. -/
theorem settingTable_rows : ∀ e ∈ settingTable, settingId e.2.1 = e.1 ∧ settingRange e.2.1 = (e.2.2.1, e.2.2.2.1) ∧
    settingValue e.2.1 State.reset = BitVec.ofNat 16 e.2.2.2.2 := by
  decide

/-! ### The field behind each value (R167): the settings that are kept neither as the number sent nor as a flag -/

theorem sharedSettingValue_busAddress (s : State) :
    sharedSettingValue .busAddress s = BitVec.ofNat 16 s.settings.busAddress.toNat :=
  (BitVec.ofNat_toNat 16 _).symm

theorem sharedSettingValue_epochSource (s : State) :
    sharedSettingValue .epochSource s = flagValue (s.settings.epochSource == .command) := by
  unfold sharedSettingValue
  cases s.settings.epochSource <;> rfl

/-- A set of readers as the number of its packed bits, A in the lowest (R179). -/
theorem toNibble_setWidth (x : ReaderSet) :
    x.toNibble.setWidth 16 = flagValue x.a + 2 * flagValue x.b + 4 * flagValue x.c + 8 * flagValue x.d := by
  obtain ⟨a, b, c, d⟩ := x
  revert a b c d; decide

theorem sharedSettingValue_defaultSet (s : State) :
    sharedSettingValue .defaultSet s = flagValue s.settings.defaultSet.a + 2 * flagValue s.settings.defaultSet.b +
      4 * flagValue s.settings.defaultSet.c + 8 * flagValue s.settings.defaultSet.d :=
  toNibble_setWidth s.settings.defaultSet

theorem readerSettingValue_holdPolicy (c : ReaderSettings) :
    readerSettingValue .holdPolicy c = flagValue (c.holdPolicy == .lapse) := by
  unfold readerSettingValue
  cases c.holdPolicy <;> rfl

theorem readerSettingValue_attnMask (c : ReaderSettings) :
    readerSettingValue .attnMask c = BitVec.ofNat 16 c.attnMask.toNat :=
  (BitVec.ofNat_toNat 16 _).symm

/-- Settles O40: the rows of the table with the ids that name its settings, and the fields value by value. -/
theorem settingIdsAndRanges : Obligations.SettingIdsAndRanges := by
  refine ⟨fun e he => ?_, fun id => ?_, ?_⟩
  · obtain ⟨hid, hrange, hreset⟩ := settingTable_rows e he
    exact ⟨hid ▸ settingOfId_settingId e.2.1, hrange, hreset⟩
  · rw [settingTable_ids]
    exact settingOfId_isSome_iff id
  · intro s r flag number t c
    refine ⟨?_, ?_⟩
    · simp only [List.map_cons, List.map_nil, settingValue, sharedSettingValue_busAddress, sharedSettingValue_epochSource,
        sharedSettingValue_defaultSet]
      rfl
    · simp only [List.map_cons, List.map_nil, settingValue, readerSettingValue_holdPolicy, readerSettingValue_attnMask]
      rfl

end Sys2Proof.Machine
end

section
/-! SUPPORT. The attention causes and the counter bank in the words of the statements (R172, R175, R176, R177): what CAUSES, COUNTER
and CLEAR_COUNTERS answer, and that the sixteen indices name the whole bank. -/

namespace Sys2Proof.Machine

/-! ### CAUSES (R172) -/

theorem exec_causes {r : Reader} {s : State} (htakes : takesCommand r s) :
    exec (.causes r) s = .next (answered r 0x03 [] .ok (bigEndian 2 (s.readers.get r).causes.toNat)
      (s.modifyReader r fun c => { c with causes := 0 })) := by
  have hexec : exec (.causes r) s = .next (command r 0x03 [] 2 (answerCauses r) s) := rfl
  rw [hexec, command_answered (keeps_causes r) htakes 0x03 [] rfl]
  rfl

/-- A cause set fills two bytes: its ninth bit, then the other eight (R169, R179). -/
theorem bigEndian_causes (x : BitVec 9) :
    bigEndian 2 x.toNat = [(x.extractLsb' 8 1).setWidth 8, x.extractLsb' 0 8] := by
  have hfits : x.toNat < 512 := x.isLt
  simp only [bigEndian, List.cons.injEq, and_true]
  constructor
  · apply BitVec.eq_of_toNat_eq
    simp [BitVec.extractLsb', Nat.shiftRight_eq_div_pow]
    omega
  · apply BitVec.eq_of_toNat_eq
    simp [BitVec.extractLsb']

/-- A line whose cause set is empty is deasserted, whatever the mask (R169). -/
theorem attnAsserted_of_noCauses {r : Reader} {s : State} (h : (s.readers.get r).causes = 0) : attnAsserted r s = false := by
  simp [attnAsserted, h]

theorem modifyReader_noCauses {r : Reader} {s : State} (h : (s.readers.get r).causes = 0) :
    (s.modifyReader r fun c => { c with causes := 0 }) = s := by
  have hsame : { s.readers.get r with causes := 0 } = s.readers.get r := by rw [← h]
  simp only [State.modifyReader, hsame, PerReader.set_get]
  rfl

/-- Settles O31: the one answer of CAUSES, and what its emptied set means for the line and for an empty set. -/
theorem causesCollectsTheSet : Obligations.CausesCollectsTheSet := by
  intro r s htakes c
  rw [exec_causes htakes, bigEndian_causes]
  refine ⟨_, rfl, rfl, attnAsserted_of_noCauses ?_, fun q hother => ?_, rfl, fun hempty => ?_⟩
  · exact congrArg ReaderContext.causes (PerReader.get_set_same ..)
  · exact PerReader.get_set_other _ hother _
  · rw [modifyReader_noCauses hempty, hempty]
    rfl

/-! ### The counter bank (R175) -/

/-- The indices name the counters in the order of the bank's table. -/
theorem counterValues_eq (c : Counters) : (List.range 16).map (counterValue c) =
    [c.triggersAccepted, c.refusedFull, c.refusedEpoch, c.badFrames, c.stretches, c.epochChanges, c.referenceLosses,
      c.busyTicks, c.forcedReleases.a, c.forcedReleases.b, c.forcedReleases.c, c.forcedReleases.d, c.takes.a, c.takes.b,
      c.takes.c, c.takes.d] := rfl

/-- The sixteen indices reach the whole bank: two banks that agree at each of them are equal. -/
theorem counters_ext {c d : Counters} (h : ∀ i, i < 16 → counterValue c i = counterValue d i) : c = d := by
  have hvalues : (List.range 16).map (counterValue c) = (List.range 16).map (counterValue d) :=
    List.map_congr_left fun i hi => h i (List.mem_range.mp hi)
  obtain ⟨_, _, _, _, _, _, _, _, ⟨_, _, _, _⟩, ⟨_, _, _, _⟩⟩ := c
  obtain ⟨_, _, _, _, _, _, _, _, ⟨_, _, _, _⟩, ⟨_, _, _, _⟩⟩ := d
  simpa [counterValues_eq, and_assoc] using hvalues

theorem counters_eq_zero {c : Counters} (h : ∀ i, i < 16 → counterValue c i = 0) : c = Counters.zero :=
  counters_ext fun i hi => (h i hi).trans (counterValue_zero hi).symm

/-! ### COUNTER (R176) -/

theorem exec_counter {r : Reader} {s : State} (htakes : takesCommand r s) (index form : Byte) :
    exec (.counter r index form) s = .next (answered r 0x40 [index, form] (answerCounter r index form s).status
      (replyBytes (counterReplyLength form) (answerCounter r index form s)) (answerCounter r index form s).after) := by
  have hexec : exec (.counter r index form) s =
    .next (command r 0x40 [index, form] (counterReplyLength form) (answerCounter r index form) s) := rfl
  rw [hexec, command_answered (keeps_counter r index form) htakes 0x40 [index, form] rfl]

/-- COUNTER asks for the token only while COUNTERS_OPEN is 0. -/
theorem countersClosedTo_iff (r : Reader) (s : State) :
    (!s.settings.countersOpen && !holdsToken r s) = true ↔ ¬(s.settings.countersOpen = true ∨ s.token = some r) := by
  simp [holdsToken]

theorem answerCounter_notHolder {r : Reader} {s : State} (h : ¬(s.settings.countersOpen = true ∨ s.token = some r))
    (index form : Byte) : answerCounter r index form s = refuse .notHolder s :=
  if_pos ((countersClosedTo_iff r s).mpr h)

theorem answerCounter_badIndex {r : Reader} {index : Byte} {s : State}
    (h : s.settings.countersOpen = true ∨ s.token = some r) (hindex : 15 < index.toNat) (form : Byte) :
    answerCounter r index form s = refuse .badIndex s := by
  rw [answerCounter, if_neg (mt (countersClosedTo_iff r s).mp (not_not_intro h)), if_pos hindex]

theorem answerCounter_badValue {r : Reader} {index form : Byte} {s : State}
    (h : s.settings.countersOpen = true ∨ s.token = some r) (hindex : index.toNat ≤ 15) (hform : 1 < form.toNat) :
    answerCounter r index form s = refuse .badValue s := by
  rw [answerCounter, if_neg (mt (countersClosedTo_iff r s).mp (not_not_intro h)), if_neg hindex.not_gt, if_pos hform]

theorem answerCounter_read {r : Reader} {index form : Byte} {s : State}
    (h : s.settings.countersOpen = true ∨ s.token = some r) (hindex : index.toNat ≤ 15) (hform : form.toNat ≤ 1) :
    answerCounter r index form s =
      perform (bigEndian (counterReplyLength form) (counterValue s.counters index.toNat).toNat) s := by
  rw [answerCounter, if_neg (mt (countersClosedTo_iff r s).mp (not_not_intro h)), if_neg hindex.not_gt, if_neg hform.not_gt]

/-- The low 32 bits carry addition, so the difference of two short reads is the increase between them. -/
theorem shortRead_sub_toNat (before : BitVec 40) {k : Nat} (h : k < 2 ^ 32) :
    ((before + BitVec.ofNat 40 k).extractLsb' 0 32 - before.extractLsb' 0 32).toNat = k := by
  have hlow : (before + BitVec.ofNat 40 k).extractLsb' 0 32 = before.extractLsb' 0 32 + BitVec.ofNat 32 k := by
    have hle : 32 ≤ 40 := by decide
    simp only [← BitVec.setWidth_eq_extractLsb' hle, BitVec.setWidth_add _ _ hle, BitVec.setWidth_ofNat_of_le hle]
  rw [hlow, BitVec.add_comm, BitVec.add_sub_cancel, BitVec.toNat_ofNat, Nat.mod_eq_of_lt h]

/-- Settles O49: the answers in the order of R176's checks, then the short reads, the reset value and the order of the bank. -/
theorem counterReadsOneCounter : Obligations.CounterReadsOneCounter := by
  refine ⟨fun r index form s htakes => ?_, fun before k hk => shortRead_sub_toNat before hk, rfl, counterValues_eq⟩
  intro run zeros admitted n
  have hrun : run = .next (answered r 0x40 [index, form] (answerCounter r index form s).status
    (replyBytes (counterReplyLength form) (answerCounter r index form s)) (answerCounter r index form s).after) :=
    exec_counter htakes index form
  rw [hrun]
  refine ⟨fun hclosed => ?_, fun hopen hindex => ?_, fun hopen hindex hform => ?_, fun hopen hindex hfull => ?_,
    fun hopen hindex hshort => ?_⟩
  · rw [answerCounter_notHolder hclosed]
    rfl
  · rw [answerCounter_badIndex hopen hindex]
    rfl
  · rw [answerCounter_badValue hopen hindex hform]
    rfl
  · subst hfull
    rw [answerCounter_read hopen hindex (by decide), replyBytes_perform, counterReplyLength, if_pos rfl, bigEndian_five]
    rfl
  · subst hshort
    rw [answerCounter_read hopen hindex (by decide), replyBytes_perform, counterReplyLength, if_neg (by decide),
      bigEndian_four]
    rfl

/-! ### CLEAR_COUNTERS (R177) -/

theorem exec_clearCounters {r : Reader} {s : State} (htakes : takesCommand r s) :
    exec (.clearCounters r) s = .next (answered r 0x41 [] (answerClearCounters r s).status
      (replyBytes 0 (answerClearCounters r s)) (answerClearCounters r s).after) := by
  have hexec : exec (.clearCounters r) s = .next (command r 0x41 [] 0 (answerClearCounters r) s) := rfl
  rw [hexec, command_answered (keeps_clearCounters r) htakes 0x41 [] rfl]

theorem answerClearCounters_holder {r : Reader} {s : State} (h : s.token = some r) :
    answerClearCounters r s = perform [] (s.withCounters Counters.zero) := by
  simp [answerClearCounters, holdsToken, h]

theorem answerClearCounters_notHolder {r : Reader} {s : State} (h : s.token ≠ some r) :
    answerClearCounters r s = refuse .notHolder s := by
  simp [answerClearCounters, holdsToken, h]

/-- Settles O50: the two answers of CLEAR_COUNTERS; a bank of zeros is the bank it stores. -/
theorem clearCountersZeroesTheBank : Obligations.ClearCountersZeroesTheBank := by
  intro r s htakes
  rw [exec_clearCounters htakes]
  refine ⟨fun hholder => ⟨Counters.zero, fun _ => counterValue_zero, ?_⟩, fun hholder hzero => ?_, fun hother => ?_⟩
  · rw [answerClearCounters_holder hholder]
    rfl
  · rw [answerClearCounters_holder hholder, ← counters_eq_zero hzero]
    rfl
  · rw [answerClearCounters_notHolder hother]
    rfl

end Sys2Proof.Machine
end

section
/-! SUPPORT. The record image in the words of its statement (R179, R181): its flags and its required set as the numbers their bits make. -/

namespace Sys2Proof.Machine

/-! ### The fields of a record image (12.3) -/

theorem bigEndian_one (x : BitVec 8) : bigEndian 1 x.toNat = [x] := by
  simp [bigEndian]

/-- The flags of 12.3 as the number they make, bits 7 and 6 clear. -/
theorem recordFlags_eq (x : EventRecord) :
    recordFlags x = BitVec.ofNat 8 ((if x.quality = .unsettled then 1 else 0) + (if x.sampled then 2 else 0) +
      (if x.runStart then 4 else 0) + (if x.roll then 8 else 0) + (if x.tag = none then 0 else 16) +
      (if x.forced then 32 else 0)) := by
  have htag : (if x.tag.isSome then 16 else 0) = if x.tag = none then 0 else 16 := by cases x.tag <;> simp
  simp [recordFlags, byteOfBits_low_seven, htag]

/-- The required set in the low nibble of its byte, A in bit 0 (R179). -/
theorem toNibble_byte (x : ReaderSet) :
    x.toNibble.setWidth 8 = BitVec.ofNat 8 ((if x.a then 1 else 0) + (if x.b then 2 else 0) + (if x.c then 4 else 0) +
      (if x.d then 8 else 0)) := by
  obtain ⟨a, b, c, d⟩ := x
  revert a b c d
  decide

/-- Settles O33: the fields' bytes in their order, each by its own lemma. -/
theorem recordImageLayout : Obligations.RecordImageLayout := by
  intro x n t tag flags required
  have htag : x.tag.getD 0 = tag := by
    subst tag
    cases x.tag <;> rfl
  rw [recordImage, bigEndian_three, bigEndian_one, bigEndian_two, bigEndian_six, recordFlags_eq, htag, bigEndian_two,
    toNibble_byte]
  rfl

end Sys2Proof.Machine
end

section
/-! SUPPORT. The queue of commands in every event (log entry 1): what the bytes and marks of the trigger bus leave of it, and the one
argument for all commands. -/

namespace Sys2Proof.Machine

/-! ### Marks and bytes of the trigger bus -/

@[simp] theorem countTruncation_pending (s : State) : (countTruncation s).pending = s.pending := by
  unfold countTruncation
  split <;> rfl

@[simp] theorem takeStartMark_pending (s : State) : (takeStartMark s).pending = s.pending := by
  unfold takeStartMark
  split
  · rfl
  · exact countTruncation_pending s

@[simp] theorem takeStopMark_pending (s : State) : (takeStopMark s).pending = s.pending := by
  unfold takeStopMark
  split
  · rfl
  · exact countTruncation_pending s

@[simp] theorem judgeAddress_pending (byte : Byte) (s : State) : (judgeAddress byte s).pending = s.pending := by
  unfold judgeAddress
  (repeat' split) <;> rfl

@[simp] theorem judgeHeader_pending (byte : Byte) (s : State) : (judgeHeader byte s).pending = s.pending := by
  unfold judgeHeader
  dsimp only
  split <;> rfl

@[simp] theorem judgeClass_pending (byte : Byte) (s : State) : (judgeClass byte s).pending = s.pending := by
  unfold judgeClass
  dsimp only
  split <;> rfl

@[simp] theorem judgeTriggerCheck_pending (byte : Byte) (s : State) : (judgeTriggerCheck byte s).pending = s.pending := by
  unfold judgeTriggerCheck
  (repeat' split) <;> simp

@[simp] theorem judgeEpochCheck_pending (byte : Byte) (s : State) : (judgeEpochCheck byte s).pending = s.pending := by
  unfold judgeEpochCheck
  (repeat' split) <;> simp

@[simp] theorem receiveByte_pending (byte : Byte) (s : State) : (receiveByte byte s).pending = s.pending := by
  unfold receiveByte
  split
  · rfl
  · rfl
  · exact judgeAddress_pending byte s
  · exact judgeHeader_pending byte s
  · exact judgeClass_pending byte s
  · rfl
  · split
    · exact judgeTriggerCheck_pending byte s
    · exact judgeEpochCheck_pending byte s
  · rfl
  · rfl

@[simp] theorem sendStatusByte_pending (acknowledged : Bool) (s : State) :
    (sendStatusByte acknowledged s).pending = s.pending := by
  unfold sendStatusByte
  (repeat' split) <;> rfl

/-- EPOCH_RESET: a pending reset at an empty table (R122). -/
theorem takeEpochReset_pending (s : State) :
    (if s.numbering.epochPending && s.table.isEmpty then reevaluateBusy (applyEpochReset s) else s).pending = s.pending := by
  split
  · rw [reevaluateBusy_pending, applyEpochReset_pending]
  · rfl

/-! ### Every command -/

/-- With RST_N low an event does not happen, and the queue is as it was. -/
theorem whileRunning_pending {f : State → State} (h : ∀ s, (f s).pending = s.pending) (s : State) :
    (whileRunning f s).pending = s.pending := by
  unfold whileRunning
  split
  · rfl
  · exact h s

/-- Settles O2: a reader command is an effect at its port, which leaves the queue alone, or changes nothing (`exec_of_readerOf`), and
every other row is one event of the hub. -/
theorem everyCommandAnswersNext : Obligations.EveryCommandAnswersNext := by
  intro c s
  cases hreader : readerOf c with
  | some r =>
    rcases exec_of_readerOf hreader s with hsame | ⟨code, args, length, act, hexec, hform⟩
    · exact ⟨s, hsame, rfl⟩
    · exact ⟨_, hexec, command_pending hform.ports r code args length s⟩
  | none =>
    cases c with
    | deviceReset => exact ⟨_, rfl, rfl⟩
    | resetRelease =>
      refine ⟨_, rfl, ?_⟩
      split
      · exact reevaluateBusy_pending _
      · rfl
    | tick => exact ⟨_, rfl, whileRunning_pending takeTick_pending s⟩
    | holdExpiry r => exact ⟨_, rfl, whileRunning_pending (takeHoldExpiry_pending r) s⟩
    | minimumHoldExpiry => exact ⟨_, rfl, whileRunning_pending takeMinimumHoldExpiry_pending s⟩
    | stretchExpiry => exact ⟨_, rfl, whileRunning_pending takeStretchExpiry_pending s⟩
    | refclkEdge => exact ⟨_, rfl, whileRunning_pending countRefclkEdge_pending s⟩
    | refclkAbsent => exact ⟨_, rfl, whileRunning_pending loseRefclk_pending s⟩
    | settleComplete => exact ⟨_, rfl, whileRunning_pending takeSettleComplete_pending s⟩
    | startMark => exact ⟨_, rfl, whileRunning_pending takeStartMark_pending s⟩
    | stopMark => exact ⟨_, rfl, whileRunning_pending takeStopMark_pending s⟩
    | addressByte byte | headerByte byte | classByte byte | tagByte byte | triggerCheckByte byte | epochCheckByte byte =>
      exact ⟨_, rfl, whileRunning_pending (receiveByte_pending byte) s⟩
    | holdingEntry => exact ⟨_, rfl, whileRunning_pending retryHeldFrame_pending s⟩
    | epochReset => exact ⟨_, rfl, whileRunning_pending takeEpochReset_pending s⟩
    | statusReadByte acknowledged => exact ⟨_, rfl, whileRunning_pending (sendStatusByte_pending acknowledged) s⟩
    | transactionOpen r | transactionEnd r =>
      refine ⟨_, rfl, ?_⟩
      split <;> rfl
    | _ => cases hreader

end Sys2Proof.Machine
end
